-- ==== Sys2Proof/Word.lean ====
section
/-! DEFINITION. The two widths of JBCORE (00_scope.md R7: XLEN8 = 8, XLEN16 = 16). -/

namespace Sys2Proof

/-- A register half, a memory cell, the 8-bit data path (R7 XLEN8). -/
abbrev Byte := BitVec 8

/-- A register pair, PC, SP and a logical address (R7 XLEN16). -/
abbrev Word := BitVec 16

end Sys2Proof
end

