-- ==== Sys2Proof/Syntax.lean ====
section
/-! DEFINITION. The instructions: one constructor for each row of opcode_table.json (30_encoding.md R122), and the
small types the operand tables of 30_encoding.md name. An immediate operand d8, e8, a8, d16 or a16 (R108, R109) is the
constructor's argument as it stands in the instruction's bytes; e8 is the raw byte, sign-extended where a rule says so. -/

namespace Sys2Proof

/-- The register halves an instruction can name: table R8 without index 6 (R103). F is never an operand (R23). -/
inductive Reg8
  | a | b | c | d | e | h | l
deriving DecidableEq, Repr

/-- Table R8 (R103): a register half, or the memory cell addressed by HL. -/
inductive Loc8
  | reg (r : Reg8)
  | mHL
deriving DecidableEq, Repr

/-- The second operand of an 8-bit ALU operation (R200): a table R8 entry or the immediate d8. -/
inductive Src8
  | loc (l : Loc8)
  | imm (n : Byte)
deriving DecidableEq, Repr

/-- Table R16 (R104). -/
inductive Reg16
  | bc | de | hl | sp
deriving DecidableEq, Repr

/-- Table R16STK (R105). -/
inductive RegStk
  | bc | de | hl | af
deriving DecidableEq, Repr

/-- Table R16MEM (R106): `(BC)`, `(DE)`, `(HL+)`, `(HL-)`. -/
inductive MemPtr
  | bc | de | hlInc | hlDec
deriving DecidableEq, Repr

/-- Table CC (R107). -/
inductive Cond
  | nz | z | nc | c
deriving DecidableEq, Repr

/-- Table ALU (R111). -/
inductive AluOp
  | add | adc | sub | sbc | and | xor | or | cp
deriving DecidableEq, Repr

/-- Table ROT (R112). -/
inductive RotOp
  | rlc | rrc | rl | rr | sla | sra | swap | srl
deriving DecidableEq, Repr

/-- One constructor for each row of opcode_table.json: first the rows with an immediate, then the others, each in the
table's order (Lean's compiler wants the constructors that carry data first). -/
inductive Instr
  /-- LD BC,d16 (0x01), R160. -/
  | ldBC_d16 (d16 : Word)
  /-- LD B,d8 (0x06), R141. -/
  | ldB_d8 (d8 : Byte)
  /-- LD (a16),SP (0x08), R161. -/
  | ldMa16_SP (a16 : Word)
  /-- LD C,d8 (0x0E), R141. -/
  | ldC_d8 (d8 : Byte)
  /-- STOP (0x10), R363. -/
  | stop (pad : Byte)
  /-- LD DE,d16 (0x11), R160. -/
  | ldDE_d16 (d16 : Word)
  /-- LD D,d8 (0x16), R141. -/
  | ldD_d8 (d8 : Byte)
  /-- JR e8 (0x18), R323. -/
  | jr_e8 (e8 : Byte)
  /-- LD E,d8 (0x1E), R141. -/
  | ldE_d8 (d8 : Byte)
  /-- JR NZ,e8 (0x20), R324. -/
  | jrNZ_e8 (e8 : Byte)
  /-- LD HL,d16 (0x21), R160. -/
  | ldHL_d16 (d16 : Word)
  /-- LD H,d8 (0x26), R141. -/
  | ldH_d8 (d8 : Byte)
  /-- JR Z,e8 (0x28), R324. -/
  | jrZ_e8 (e8 : Byte)
  /-- LD L,d8 (0x2E), R141. -/
  | ldL_d8 (d8 : Byte)
  /-- JR NC,e8 (0x30), R324. -/
  | jrNC_e8 (e8 : Byte)
  /-- LD SP,d16 (0x31), R160. -/
  | ldSP_d16 (d16 : Word)
  /-- LD (HL),d8 (0x36), R144. -/
  | ldMHL_d8 (d8 : Byte)
  /-- JR C,e8 (0x38), R324. -/
  | jrC_e8 (e8 : Byte)
  /-- LD A,d8 (0x3E), R141. -/
  | ldA_d8 (d8 : Byte)
  /-- JP NZ,a16 (0xC2), R321. -/
  | jpNZ_a16 (a16 : Word)
  /-- JP a16 (0xC3), R320. -/
  | jp_a16 (a16 : Word)
  /-- CALL NZ,a16 (0xC4), R326. -/
  | callNZ_a16 (a16 : Word)
  /-- ADD A,d8 (0xC6), R201. -/
  | addA_d8 (d8 : Byte)
  /-- JP Z,a16 (0xCA), R321. -/
  | jpZ_a16 (a16 : Word)
  /-- CALL Z,a16 (0xCC), R326. -/
  | callZ_a16 (a16 : Word)
  /-- CALL a16 (0xCD), R325. -/
  | call_a16 (a16 : Word)
  /-- ADC A,d8 (0xCE), R202. -/
  | adcA_d8 (d8 : Byte)
  /-- JP NC,a16 (0xD2), R321. -/
  | jpNC_a16 (a16 : Word)
  /-- CALL NC,a16 (0xD4), R326. -/
  | callNC_a16 (a16 : Word)
  /-- SUB d8 (0xD6), R203. -/
  | sub_d8 (d8 : Byte)
  /-- JP C,a16 (0xDA), R321. -/
  | jpC_a16 (a16 : Word)
  /-- CALL C,a16 (0xDC), R326. -/
  | callC_a16 (a16 : Word)
  /-- SBC A,d8 (0xDE), R204. -/
  | sbcA_d8 (d8 : Byte)
  /-- LDH (a8),A (0xE0), R153. -/
  | ldhMa8_A (a8 : Byte)
  /-- AND d8 (0xE6), R205. -/
  | and_d8 (d8 : Byte)
  /-- ADD SP,e8 (0xE8), R231. -/
  | addSP_e8 (e8 : Byte)
  /-- LD (a16),A (0xEA), R157. -/
  | ldMa16_A (a16 : Word)
  /-- XOR d8 (0xEE), R206. -/
  | xor_d8 (d8 : Byte)
  /-- LDH A,(a8) (0xF0), R154. -/
  | ldhA_Ma8 (a8 : Byte)
  /-- OR d8 (0xF6), R207. -/
  | or_d8 (d8 : Byte)
  /-- LD HL,SP+e8 (0xF8), R163. -/
  | ldHL_SPe8 (e8 : Byte)
  /-- LD A,(a16) (0xFA), R158. -/
  | ldA_Ma16 (a16 : Word)
  /-- CP d8 (0xFE), R208. -/
  | cp_d8 (d8 : Byte)
  /-- NOP (0x00), R360. -/
  | nop
  /-- LD (BC),A (0x02), R147. -/
  | ldMBC_A
  /-- INC BC (0x03), R232. -/
  | incBC
  /-- INC B (0x04), R250. -/
  | incB
  /-- DEC B (0x05), R252. -/
  | decB
  /-- RLCA (0x07), R260. -/
  | rlca
  /-- ADD HL,BC (0x09), R230. -/
  | addHL_BC
  /-- LD A,(BC) (0x0A), R145. -/
  | ldA_MBC
  /-- DEC BC (0x0B), R233. -/
  | decBC
  /-- INC C (0x0C), R250. -/
  | incC
  /-- DEC C (0x0D), R252. -/
  | decC
  /-- RRCA (0x0F), R261. -/
  | rrca
  /-- LD (DE),A (0x12), R148. -/
  | ldMDE_A
  /-- INC DE (0x13), R232. -/
  | incDE
  /-- INC D (0x14), R250. -/
  | incD
  /-- DEC D (0x15), R252. -/
  | decD
  /-- RLA (0x17), R262. -/
  | rla
  /-- ADD HL,DE (0x19), R230. -/
  | addHL_DE
  /-- LD A,(DE) (0x1A), R146. -/
  | ldA_MDE
  /-- DEC DE (0x1B), R233. -/
  | decDE
  /-- INC E (0x1C), R250. -/
  | incE
  /-- DEC E (0x1D), R252. -/
  | decE
  /-- RRA (0x1F), R263. -/
  | rra
  /-- LD (HL+),A (0x22), R151. -/
  | ldMHLinc_A
  /-- INC HL (0x23), R232. -/
  | incHL
  /-- INC H (0x24), R250. -/
  | incH
  /-- DEC H (0x25), R252. -/
  | decH
  /-- DAA (0x27), R367. -/
  | daa
  /-- ADD HL,HL (0x29), R230. -/
  | addHL_HL
  /-- LD A,(HL+) (0x2A), R149. -/
  | ldA_MHLinc
  /-- DEC HL (0x2B), R233. -/
  | decHL
  /-- INC L (0x2C), R250. -/
  | incL
  /-- DEC L (0x2D), R252. -/
  | decL
  /-- CPL (0x2F), R366. -/
  | cpl
  /-- LD (HL-),A (0x32), R152. -/
  | ldMHLdec_A
  /-- INC SP (0x33), R232. -/
  | incSP
  /-- INC (HL) (0x34), R251. -/
  | incMHL
  /-- DEC (HL) (0x35), R253. -/
  | decMHL
  /-- SCF (0x37), R364. -/
  | scf
  /-- ADD HL,SP (0x39), R230. -/
  | addHL_SP
  /-- LD A,(HL-) (0x3A), R150. -/
  | ldA_MHLdec
  /-- DEC SP (0x3B), R233. -/
  | decSP
  /-- INC A (0x3C), R250. -/
  | incA
  /-- DEC A (0x3D), R252. -/
  | decA
  /-- CCF (0x3F), R365. -/
  | ccf
  /-- LD B,B (0x40), R140. -/
  | ldB_B
  /-- LD B,C (0x41), R140. -/
  | ldB_C
  /-- LD B,D (0x42), R140. -/
  | ldB_D
  /-- LD B,E (0x43), R140. -/
  | ldB_E
  /-- LD B,H (0x44), R140. -/
  | ldB_H
  /-- LD B,L (0x45), R140. -/
  | ldB_L
  /-- LD B,(HL) (0x46), R142. -/
  | ldB_MHL
  /-- LD B,A (0x47), R140. -/
  | ldB_A
  /-- LD C,B (0x48), R140. -/
  | ldC_B
  /-- LD C,C (0x49), R140. -/
  | ldC_C
  /-- LD C,D (0x4A), R140. -/
  | ldC_D
  /-- LD C,E (0x4B), R140. -/
  | ldC_E
  /-- LD C,H (0x4C), R140. -/
  | ldC_H
  /-- LD C,L (0x4D), R140. -/
  | ldC_L
  /-- LD C,(HL) (0x4E), R142. -/
  | ldC_MHL
  /-- LD C,A (0x4F), R140. -/
  | ldC_A
  /-- LD D,B (0x50), R140. -/
  | ldD_B
  /-- LD D,C (0x51), R140. -/
  | ldD_C
  /-- LD D,D (0x52), R140. -/
  | ldD_D
  /-- LD D,E (0x53), R140. -/
  | ldD_E
  /-- LD D,H (0x54), R140. -/
  | ldD_H
  /-- LD D,L (0x55), R140. -/
  | ldD_L
  /-- LD D,(HL) (0x56), R142. -/
  | ldD_MHL
  /-- LD D,A (0x57), R140. -/
  | ldD_A
  /-- LD E,B (0x58), R140. -/
  | ldE_B
  /-- LD E,C (0x59), R140. -/
  | ldE_C
  /-- LD E,D (0x5A), R140. -/
  | ldE_D
  /-- LD E,E (0x5B), R140. -/
  | ldE_E
  /-- LD E,H (0x5C), R140. -/
  | ldE_H
  /-- LD E,L (0x5D), R140. -/
  | ldE_L
  /-- LD E,(HL) (0x5E), R142. -/
  | ldE_MHL
  /-- LD E,A (0x5F), R140. -/
  | ldE_A
  /-- LD H,B (0x60), R140. -/
  | ldH_B
  /-- LD H,C (0x61), R140. -/
  | ldH_C
  /-- LD H,D (0x62), R140. -/
  | ldH_D
  /-- LD H,E (0x63), R140. -/
  | ldH_E
  /-- LD H,H (0x64), R140. -/
  | ldH_H
  /-- LD H,L (0x65), R140. -/
  | ldH_L
  /-- LD H,(HL) (0x66), R142. -/
  | ldH_MHL
  /-- LD H,A (0x67), R140. -/
  | ldH_A
  /-- LD L,B (0x68), R140. -/
  | ldL_B
  /-- LD L,C (0x69), R140. -/
  | ldL_C
  /-- LD L,D (0x6A), R140. -/
  | ldL_D
  /-- LD L,E (0x6B), R140. -/
  | ldL_E
  /-- LD L,H (0x6C), R140. -/
  | ldL_H
  /-- LD L,L (0x6D), R140. -/
  | ldL_L
  /-- LD L,(HL) (0x6E), R142. -/
  | ldL_MHL
  /-- LD L,A (0x6F), R140. -/
  | ldL_A
  /-- LD (HL),B (0x70), R143. -/
  | ldMHL_B
  /-- LD (HL),C (0x71), R143. -/
  | ldMHL_C
  /-- LD (HL),D (0x72), R143. -/
  | ldMHL_D
  /-- LD (HL),E (0x73), R143. -/
  | ldMHL_E
  /-- LD (HL),H (0x74), R143. -/
  | ldMHL_H
  /-- LD (HL),L (0x75), R143. -/
  | ldMHL_L
  /-- HALT (0x76), R361. -/
  | halt
  /-- LD (HL),A (0x77), R143. -/
  | ldMHL_A
  /-- LD A,B (0x78), R140. -/
  | ldA_B
  /-- LD A,C (0x79), R140. -/
  | ldA_C
  /-- LD A,D (0x7A), R140. -/
  | ldA_D
  /-- LD A,E (0x7B), R140. -/
  | ldA_E
  /-- LD A,H (0x7C), R140. -/
  | ldA_H
  /-- LD A,L (0x7D), R140. -/
  | ldA_L
  /-- LD A,(HL) (0x7E), R142. -/
  | ldA_MHL
  /-- LD A,A (0x7F), R140. -/
  | ldA_A
  /-- ADD A,B (0x80), R201. -/
  | addA_B
  /-- ADD A,C (0x81), R201. -/
  | addA_C
  /-- ADD A,D (0x82), R201. -/
  | addA_D
  /-- ADD A,E (0x83), R201. -/
  | addA_E
  /-- ADD A,H (0x84), R201. -/
  | addA_H
  /-- ADD A,L (0x85), R201. -/
  | addA_L
  /-- ADD A,(HL) (0x86), R201. -/
  | addA_MHL
  /-- ADD A,A (0x87), R201. -/
  | addA_A
  /-- ADC A,B (0x88), R202. -/
  | adcA_B
  /-- ADC A,C (0x89), R202. -/
  | adcA_C
  /-- ADC A,D (0x8A), R202. -/
  | adcA_D
  /-- ADC A,E (0x8B), R202. -/
  | adcA_E
  /-- ADC A,H (0x8C), R202. -/
  | adcA_H
  /-- ADC A,L (0x8D), R202. -/
  | adcA_L
  /-- ADC A,(HL) (0x8E), R202. -/
  | adcA_MHL
  /-- ADC A,A (0x8F), R202. -/
  | adcA_A
  /-- SUB B (0x90), R203. -/
  | subB
  /-- SUB C (0x91), R203. -/
  | subC
  /-- SUB D (0x92), R203. -/
  | subD
  /-- SUB E (0x93), R203. -/
  | subE
  /-- SUB H (0x94), R203. -/
  | subH
  /-- SUB L (0x95), R203. -/
  | subL
  /-- SUB (HL) (0x96), R203. -/
  | subMHL
  /-- SUB A (0x97), R203. -/
  | subA
  /-- SBC A,B (0x98), R204. -/
  | sbcA_B
  /-- SBC A,C (0x99), R204. -/
  | sbcA_C
  /-- SBC A,D (0x9A), R204. -/
  | sbcA_D
  /-- SBC A,E (0x9B), R204. -/
  | sbcA_E
  /-- SBC A,H (0x9C), R204. -/
  | sbcA_H
  /-- SBC A,L (0x9D), R204. -/
  | sbcA_L
  /-- SBC A,(HL) (0x9E), R204. -/
  | sbcA_MHL
  /-- SBC A,A (0x9F), R204. -/
  | sbcA_A
  /-- AND B (0xA0), R205. -/
  | andB
  /-- AND C (0xA1), R205. -/
  | andC
  /-- AND D (0xA2), R205. -/
  | andD
  /-- AND E (0xA3), R205. -/
  | andE
  /-- AND H (0xA4), R205. -/
  | andH
  /-- AND L (0xA5), R205. -/
  | andL
  /-- AND (HL) (0xA6), R205. -/
  | andMHL
  /-- AND A (0xA7), R205. -/
  | andA
  /-- XOR B (0xA8), R206. -/
  | xorB
  /-- XOR C (0xA9), R206. -/
  | xorC
  /-- XOR D (0xAA), R206. -/
  | xorD
  /-- XOR E (0xAB), R206. -/
  | xorE
  /-- XOR H (0xAC), R206. -/
  | xorH
  /-- XOR L (0xAD), R206. -/
  | xorL
  /-- XOR (HL) (0xAE), R206. -/
  | xorMHL
  /-- XOR A (0xAF), R206. -/
  | xorA
  /-- OR B (0xB0), R207. -/
  | orB
  /-- OR C (0xB1), R207. -/
  | orC
  /-- OR D (0xB2), R207. -/
  | orD
  /-- OR E (0xB3), R207. -/
  | orE
  /-- OR H (0xB4), R207. -/
  | orH
  /-- OR L (0xB5), R207. -/
  | orL
  /-- OR (HL) (0xB6), R207. -/
  | orMHL
  /-- OR A (0xB7), R207. -/
  | orA
  /-- CP B (0xB8), R208. -/
  | cpB
  /-- CP C (0xB9), R208. -/
  | cpC
  /-- CP D (0xBA), R208. -/
  | cpD
  /-- CP E (0xBB), R208. -/
  | cpE
  /-- CP H (0xBC), R208. -/
  | cpH
  /-- CP L (0xBD), R208. -/
  | cpL
  /-- CP (HL) (0xBE), R208. -/
  | cpMHL
  /-- CP A (0xBF), R208. -/
  | cpA
  /-- RET NZ (0xC0), R328. -/
  | retNZ
  /-- POP BC (0xC1), R351. -/
  | popBC
  /-- PUSH BC (0xC5), R350. -/
  | pushBC
  /-- RST 0x00 (0xC7), R330. -/
  | rst00
  /-- RET Z (0xC8), R328. -/
  | retZ
  /-- RET (0xC9), R327. -/
  | ret
  /-- PREFIX CB (0xCB), R371. -/
  | prefixCB
  /-- RST 0x08 (0xCF), R330. -/
  | rst08
  /-- RET NC (0xD0), R328. -/
  | retNC
  /-- POP DE (0xD1), R351. -/
  | popDE
  /-- ILLEGAL_D3 (0xD3), R370. -/
  | illegalD3
  /-- PUSH DE (0xD5), R350. -/
  | pushDE
  /-- RST 0x10 (0xD7), R330. -/
  | rst10
  /-- RET C (0xD8), R328. -/
  | retC
  /-- RETI (0xD9), R329. -/
  | reti
  /-- ILLEGAL_DB (0xDB), R370. -/
  | illegalDB
  /-- ILLEGAL_DD (0xDD), R370. -/
  | illegalDD
  /-- RST 0x18 (0xDF), R330. -/
  | rst18
  /-- POP HL (0xE1), R351. -/
  | popHL
  /-- LD (C),A (0xE2), R155. -/
  | ldMC_A
  /-- ILLEGAL_E3 (0xE3), R370. -/
  | illegalE3
  /-- ILLEGAL_E4 (0xE4), R370. -/
  | illegalE4
  /-- PUSH HL (0xE5), R350. -/
  | pushHL
  /-- RST 0x20 (0xE7), R330. -/
  | rst20
  /-- JP HL (0xE9), R322. -/
  | jpHL
  /-- ILLEGAL_EB (0xEB), R370. -/
  | illegalEB
  /-- ILLEGAL_EC (0xEC), R370. -/
  | illegalEC
  /-- ILLEGAL_ED (0xED), R370. -/
  | illegalED
  /-- RST 0x28 (0xEF), R330. -/
  | rst28
  /-- POP AF (0xF1), R352. -/
  | popAF
  /-- LD A,(C) (0xF2), R156. -/
  | ldA_MC
  /-- DI (0xF3), R368. -/
  | di
  /-- ILLEGAL_F4 (0xF4), R370. -/
  | illegalF4
  /-- PUSH AF (0xF5), R350. -/
  | pushAF
  /-- RST 0x30 (0xF7), R330. -/
  | rst30
  /-- LD SP,HL (0xF9), R162. -/
  | ldSP_HL
  /-- EI (0xFB), R369. -/
  | ei
  /-- ILLEGAL_FC (0xFC), R370. -/
  | illegalFC
  /-- ILLEGAL_FD (0xFD), R370. -/
  | illegalFD
  /-- RST 0x38 (0xFF), R330. -/
  | rst38
  /-- RLC B (CB 00), R264. -/
  | rlc_B
  /-- RLC C (CB 01), R264. -/
  | rlc_C
  /-- RLC D (CB 02), R264. -/
  | rlc_D
  /-- RLC E (CB 03), R264. -/
  | rlc_E
  /-- RLC H (CB 04), R264. -/
  | rlc_H
  /-- RLC L (CB 05), R264. -/
  | rlc_L
  /-- RLC (HL) (CB 06), R264. -/
  | rlc_MHL
  /-- RLC A (CB 07), R264. -/
  | rlc_A
  /-- RRC B (CB 08), R265. -/
  | rrc_B
  /-- RRC C (CB 09), R265. -/
  | rrc_C
  /-- RRC D (CB 0A), R265. -/
  | rrc_D
  /-- RRC E (CB 0B), R265. -/
  | rrc_E
  /-- RRC H (CB 0C), R265. -/
  | rrc_H
  /-- RRC L (CB 0D), R265. -/
  | rrc_L
  /-- RRC (HL) (CB 0E), R265. -/
  | rrc_MHL
  /-- RRC A (CB 0F), R265. -/
  | rrc_A
  /-- RL B (CB 10), R266. -/
  | rl_B
  /-- RL C (CB 11), R266. -/
  | rl_C
  /-- RL D (CB 12), R266. -/
  | rl_D
  /-- RL E (CB 13), R266. -/
  | rl_E
  /-- RL H (CB 14), R266. -/
  | rl_H
  /-- RL L (CB 15), R266. -/
  | rl_L
  /-- RL (HL) (CB 16), R266. -/
  | rl_MHL
  /-- RL A (CB 17), R266. -/
  | rl_A
  /-- RR B (CB 18), R267. -/
  | rr_B
  /-- RR C (CB 19), R267. -/
  | rr_C
  /-- RR D (CB 1A), R267. -/
  | rr_D
  /-- RR E (CB 1B), R267. -/
  | rr_E
  /-- RR H (CB 1C), R267. -/
  | rr_H
  /-- RR L (CB 1D), R267. -/
  | rr_L
  /-- RR (HL) (CB 1E), R267. -/
  | rr_MHL
  /-- RR A (CB 1F), R267. -/
  | rr_A
  /-- SLA B (CB 20), R268. -/
  | slaB
  /-- SLA C (CB 21), R268. -/
  | slaC
  /-- SLA D (CB 22), R268. -/
  | slaD
  /-- SLA E (CB 23), R268. -/
  | slaE
  /-- SLA H (CB 24), R268. -/
  | slaH
  /-- SLA L (CB 25), R268. -/
  | slaL
  /-- SLA (HL) (CB 26), R268. -/
  | slaMHL
  /-- SLA A (CB 27), R268. -/
  | slaA
  /-- SRA B (CB 28), R269. -/
  | sraB
  /-- SRA C (CB 29), R269. -/
  | sraC
  /-- SRA D (CB 2A), R269. -/
  | sraD
  /-- SRA E (CB 2B), R269. -/
  | sraE
  /-- SRA H (CB 2C), R269. -/
  | sraH
  /-- SRA L (CB 2D), R269. -/
  | sraL
  /-- SRA (HL) (CB 2E), R269. -/
  | sraMHL
  /-- SRA A (CB 2F), R269. -/
  | sraA
  /-- SWAP B (CB 30), R270. -/
  | swapB
  /-- SWAP C (CB 31), R270. -/
  | swapC
  /-- SWAP D (CB 32), R270. -/
  | swapD
  /-- SWAP E (CB 33), R270. -/
  | swapE
  /-- SWAP H (CB 34), R270. -/
  | swapH
  /-- SWAP L (CB 35), R270. -/
  | swapL
  /-- SWAP (HL) (CB 36), R270. -/
  | swapMHL
  /-- SWAP A (CB 37), R270. -/
  | swapA
  /-- SRL B (CB 38), R271. -/
  | srlB
  /-- SRL C (CB 39), R271. -/
  | srlC
  /-- SRL D (CB 3A), R271. -/
  | srlD
  /-- SRL E (CB 3B), R271. -/
  | srlE
  /-- SRL H (CB 3C), R271. -/
  | srlH
  /-- SRL L (CB 3D), R271. -/
  | srlL
  /-- SRL (HL) (CB 3E), R271. -/
  | srlMHL
  /-- SRL A (CB 3F), R271. -/
  | srlA
  /-- BIT 0,B (CB 40), R300. -/
  | bit0_B
  /-- BIT 0,C (CB 41), R300. -/
  | bit0_C
  /-- BIT 0,D (CB 42), R300. -/
  | bit0_D
  /-- BIT 0,E (CB 43), R300. -/
  | bit0_E
  /-- BIT 0,H (CB 44), R300. -/
  | bit0_H
  /-- BIT 0,L (CB 45), R300. -/
  | bit0_L
  /-- BIT 0,(HL) (CB 46), R300. -/
  | bit0_MHL
  /-- BIT 0,A (CB 47), R300. -/
  | bit0_A
  /-- BIT 1,B (CB 48), R300. -/
  | bit1_B
  /-- BIT 1,C (CB 49), R300. -/
  | bit1_C
  /-- BIT 1,D (CB 4A), R300. -/
  | bit1_D
  /-- BIT 1,E (CB 4B), R300. -/
  | bit1_E
  /-- BIT 1,H (CB 4C), R300. -/
  | bit1_H
  /-- BIT 1,L (CB 4D), R300. -/
  | bit1_L
  /-- BIT 1,(HL) (CB 4E), R300. -/
  | bit1_MHL
  /-- BIT 1,A (CB 4F), R300. -/
  | bit1_A
  /-- BIT 2,B (CB 50), R300. -/
  | bit2_B
  /-- BIT 2,C (CB 51), R300. -/
  | bit2_C
  /-- BIT 2,D (CB 52), R300. -/
  | bit2_D
  /-- BIT 2,E (CB 53), R300. -/
  | bit2_E
  /-- BIT 2,H (CB 54), R300. -/
  | bit2_H
  /-- BIT 2,L (CB 55), R300. -/
  | bit2_L
  /-- BIT 2,(HL) (CB 56), R300. -/
  | bit2_MHL
  /-- BIT 2,A (CB 57), R300. -/
  | bit2_A
  /-- BIT 3,B (CB 58), R300. -/
  | bit3_B
  /-- BIT 3,C (CB 59), R300. -/
  | bit3_C
  /-- BIT 3,D (CB 5A), R300. -/
  | bit3_D
  /-- BIT 3,E (CB 5B), R300. -/
  | bit3_E
  /-- BIT 3,H (CB 5C), R300. -/
  | bit3_H
  /-- BIT 3,L (CB 5D), R300. -/
  | bit3_L
  /-- BIT 3,(HL) (CB 5E), R300. -/
  | bit3_MHL
  /-- BIT 3,A (CB 5F), R300. -/
  | bit3_A
  /-- BIT 4,B (CB 60), R300. -/
  | bit4_B
  /-- BIT 4,C (CB 61), R300. -/
  | bit4_C
  /-- BIT 4,D (CB 62), R300. -/
  | bit4_D
  /-- BIT 4,E (CB 63), R300. -/
  | bit4_E
  /-- BIT 4,H (CB 64), R300. -/
  | bit4_H
  /-- BIT 4,L (CB 65), R300. -/
  | bit4_L
  /-- BIT 4,(HL) (CB 66), R300. -/
  | bit4_MHL
  /-- BIT 4,A (CB 67), R300. -/
  | bit4_A
  /-- BIT 5,B (CB 68), R300. -/
  | bit5_B
  /-- BIT 5,C (CB 69), R300. -/
  | bit5_C
  /-- BIT 5,D (CB 6A), R300. -/
  | bit5_D
  /-- BIT 5,E (CB 6B), R300. -/
  | bit5_E
  /-- BIT 5,H (CB 6C), R300. -/
  | bit5_H
  /-- BIT 5,L (CB 6D), R300. -/
  | bit5_L
  /-- BIT 5,(HL) (CB 6E), R300. -/
  | bit5_MHL
  /-- BIT 5,A (CB 6F), R300. -/
  | bit5_A
  /-- BIT 6,B (CB 70), R300. -/
  | bit6_B
  /-- BIT 6,C (CB 71), R300. -/
  | bit6_C
  /-- BIT 6,D (CB 72), R300. -/
  | bit6_D
  /-- BIT 6,E (CB 73), R300. -/
  | bit6_E
  /-- BIT 6,H (CB 74), R300. -/
  | bit6_H
  /-- BIT 6,L (CB 75), R300. -/
  | bit6_L
  /-- BIT 6,(HL) (CB 76), R300. -/
  | bit6_MHL
  /-- BIT 6,A (CB 77), R300. -/
  | bit6_A
  /-- BIT 7,B (CB 78), R300. -/
  | bit7_B
  /-- BIT 7,C (CB 79), R300. -/
  | bit7_C
  /-- BIT 7,D (CB 7A), R300. -/
  | bit7_D
  /-- BIT 7,E (CB 7B), R300. -/
  | bit7_E
  /-- BIT 7,H (CB 7C), R300. -/
  | bit7_H
  /-- BIT 7,L (CB 7D), R300. -/
  | bit7_L
  /-- BIT 7,(HL) (CB 7E), R300. -/
  | bit7_MHL
  /-- BIT 7,A (CB 7F), R300. -/
  | bit7_A
  /-- RES 0,B (CB 80), R302. -/
  | res0_B
  /-- RES 0,C (CB 81), R302. -/
  | res0_C
  /-- RES 0,D (CB 82), R302. -/
  | res0_D
  /-- RES 0,E (CB 83), R302. -/
  | res0_E
  /-- RES 0,H (CB 84), R302. -/
  | res0_H
  /-- RES 0,L (CB 85), R302. -/
  | res0_L
  /-- RES 0,(HL) (CB 86), R302. -/
  | res0_MHL
  /-- RES 0,A (CB 87), R302. -/
  | res0_A
  /-- RES 1,B (CB 88), R302. -/
  | res1_B
  /-- RES 1,C (CB 89), R302. -/
  | res1_C
  /-- RES 1,D (CB 8A), R302. -/
  | res1_D
  /-- RES 1,E (CB 8B), R302. -/
  | res1_E
  /-- RES 1,H (CB 8C), R302. -/
  | res1_H
  /-- RES 1,L (CB 8D), R302. -/
  | res1_L
  /-- RES 1,(HL) (CB 8E), R302. -/
  | res1_MHL
  /-- RES 1,A (CB 8F), R302. -/
  | res1_A
  /-- RES 2,B (CB 90), R302. -/
  | res2_B
  /-- RES 2,C (CB 91), R302. -/
  | res2_C
  /-- RES 2,D (CB 92), R302. -/
  | res2_D
  /-- RES 2,E (CB 93), R302. -/
  | res2_E
  /-- RES 2,H (CB 94), R302. -/
  | res2_H
  /-- RES 2,L (CB 95), R302. -/
  | res2_L
  /-- RES 2,(HL) (CB 96), R302. -/
  | res2_MHL
  /-- RES 2,A (CB 97), R302. -/
  | res2_A
  /-- RES 3,B (CB 98), R302. -/
  | res3_B
  /-- RES 3,C (CB 99), R302. -/
  | res3_C
  /-- RES 3,D (CB 9A), R302. -/
  | res3_D
  /-- RES 3,E (CB 9B), R302. -/
  | res3_E
  /-- RES 3,H (CB 9C), R302. -/
  | res3_H
  /-- RES 3,L (CB 9D), R302. -/
  | res3_L
  /-- RES 3,(HL) (CB 9E), R302. -/
  | res3_MHL
  /-- RES 3,A (CB 9F), R302. -/
  | res3_A
  /-- RES 4,B (CB A0), R302. -/
  | res4_B
  /-- RES 4,C (CB A1), R302. -/
  | res4_C
  /-- RES 4,D (CB A2), R302. -/
  | res4_D
  /-- RES 4,E (CB A3), R302. -/
  | res4_E
  /-- RES 4,H (CB A4), R302. -/
  | res4_H
  /-- RES 4,L (CB A5), R302. -/
  | res4_L
  /-- RES 4,(HL) (CB A6), R302. -/
  | res4_MHL
  /-- RES 4,A (CB A7), R302. -/
  | res4_A
  /-- RES 5,B (CB A8), R302. -/
  | res5_B
  /-- RES 5,C (CB A9), R302. -/
  | res5_C
  /-- RES 5,D (CB AA), R302. -/
  | res5_D
  /-- RES 5,E (CB AB), R302. -/
  | res5_E
  /-- RES 5,H (CB AC), R302. -/
  | res5_H
  /-- RES 5,L (CB AD), R302. -/
  | res5_L
  /-- RES 5,(HL) (CB AE), R302. -/
  | res5_MHL
  /-- RES 5,A (CB AF), R302. -/
  | res5_A
  /-- RES 6,B (CB B0), R302. -/
  | res6_B
  /-- RES 6,C (CB B1), R302. -/
  | res6_C
  /-- RES 6,D (CB B2), R302. -/
  | res6_D
  /-- RES 6,E (CB B3), R302. -/
  | res6_E
  /-- RES 6,H (CB B4), R302. -/
  | res6_H
  /-- RES 6,L (CB B5), R302. -/
  | res6_L
  /-- RES 6,(HL) (CB B6), R302. -/
  | res6_MHL
  /-- RES 6,A (CB B7), R302. -/
  | res6_A
  /-- RES 7,B (CB B8), R302. -/
  | res7_B
  /-- RES 7,C (CB B9), R302. -/
  | res7_C
  /-- RES 7,D (CB BA), R302. -/
  | res7_D
  /-- RES 7,E (CB BB), R302. -/
  | res7_E
  /-- RES 7,H (CB BC), R302. -/
  | res7_H
  /-- RES 7,L (CB BD), R302. -/
  | res7_L
  /-- RES 7,(HL) (CB BE), R302. -/
  | res7_MHL
  /-- RES 7,A (CB BF), R302. -/
  | res7_A
  /-- SET 0,B (CB C0), R301. -/
  | set0_B
  /-- SET 0,C (CB C1), R301. -/
  | set0_C
  /-- SET 0,D (CB C2), R301. -/
  | set0_D
  /-- SET 0,E (CB C3), R301. -/
  | set0_E
  /-- SET 0,H (CB C4), R301. -/
  | set0_H
  /-- SET 0,L (CB C5), R301. -/
  | set0_L
  /-- SET 0,(HL) (CB C6), R301. -/
  | set0_MHL
  /-- SET 0,A (CB C7), R301. -/
  | set0_A
  /-- SET 1,B (CB C8), R301. -/
  | set1_B
  /-- SET 1,C (CB C9), R301. -/
  | set1_C
  /-- SET 1,D (CB CA), R301. -/
  | set1_D
  /-- SET 1,E (CB CB), R301. -/
  | set1_E
  /-- SET 1,H (CB CC), R301. -/
  | set1_H
  /-- SET 1,L (CB CD), R301. -/
  | set1_L
  /-- SET 1,(HL) (CB CE), R301. -/
  | set1_MHL
  /-- SET 1,A (CB CF), R301. -/
  | set1_A
  /-- SET 2,B (CB D0), R301. -/
  | set2_B
  /-- SET 2,C (CB D1), R301. -/
  | set2_C
  /-- SET 2,D (CB D2), R301. -/
  | set2_D
  /-- SET 2,E (CB D3), R301. -/
  | set2_E
  /-- SET 2,H (CB D4), R301. -/
  | set2_H
  /-- SET 2,L (CB D5), R301. -/
  | set2_L
  /-- SET 2,(HL) (CB D6), R301. -/
  | set2_MHL
  /-- SET 2,A (CB D7), R301. -/
  | set2_A
  /-- SET 3,B (CB D8), R301. -/
  | set3_B
  /-- SET 3,C (CB D9), R301. -/
  | set3_C
  /-- SET 3,D (CB DA), R301. -/
  | set3_D
  /-- SET 3,E (CB DB), R301. -/
  | set3_E
  /-- SET 3,H (CB DC), R301. -/
  | set3_H
  /-- SET 3,L (CB DD), R301. -/
  | set3_L
  /-- SET 3,(HL) (CB DE), R301. -/
  | set3_MHL
  /-- SET 3,A (CB DF), R301. -/
  | set3_A
  /-- SET 4,B (CB E0), R301. -/
  | set4_B
  /-- SET 4,C (CB E1), R301. -/
  | set4_C
  /-- SET 4,D (CB E2), R301. -/
  | set4_D
  /-- SET 4,E (CB E3), R301. -/
  | set4_E
  /-- SET 4,H (CB E4), R301. -/
  | set4_H
  /-- SET 4,L (CB E5), R301. -/
  | set4_L
  /-- SET 4,(HL) (CB E6), R301. -/
  | set4_MHL
  /-- SET 4,A (CB E7), R301. -/
  | set4_A
  /-- SET 5,B (CB E8), R301. -/
  | set5_B
  /-- SET 5,C (CB E9), R301. -/
  | set5_C
  /-- SET 5,D (CB EA), R301. -/
  | set5_D
  /-- SET 5,E (CB EB), R301. -/
  | set5_E
  /-- SET 5,H (CB EC), R301. -/
  | set5_H
  /-- SET 5,L (CB ED), R301. -/
  | set5_L
  /-- SET 5,(HL) (CB EE), R301. -/
  | set5_MHL
  /-- SET 5,A (CB EF), R301. -/
  | set5_A
  /-- SET 6,B (CB F0), R301. -/
  | set6_B
  /-- SET 6,C (CB F1), R301. -/
  | set6_C
  /-- SET 6,D (CB F2), R301. -/
  | set6_D
  /-- SET 6,E (CB F3), R301. -/
  | set6_E
  /-- SET 6,H (CB F4), R301. -/
  | set6_H
  /-- SET 6,L (CB F5), R301. -/
  | set6_L
  /-- SET 6,(HL) (CB F6), R301. -/
  | set6_MHL
  /-- SET 6,A (CB F7), R301. -/
  | set6_A
  /-- SET 7,B (CB F8), R301. -/
  | set7_B
  /-- SET 7,C (CB F9), R301. -/
  | set7_C
  /-- SET 7,D (CB FA), R301. -/
  | set7_D
  /-- SET 7,E (CB FB), R301. -/
  | set7_E
  /-- SET 7,H (CB FC), R301. -/
  | set7_H
  /-- SET 7,L (CB FD), R301. -/
  | set7_L
  /-- SET 7,(HL) (CB FE), R301. -/
  | set7_MHL
  /-- SET 7,A (CB FF), R301. -/
  | set7_A
deriving DecidableEq, Repr

/-- What an instruction is, with its operands as data: the lines of the maps R113 to R117, each with the operand
tables' entries it is parameterised by. `Instr.form` (Machine/Forms.lean) gives the form of each row. -/
inductive Form
  | nop | halt | di | ei | scf | ccf | cpl | daa | rlca | rrca | rla | rra
  | stop (pad : Byte)
  | ldRR (dst src : Reg8) | ldRN (dst : Reg8) (n : Byte) | ldRM (dst : Reg8) | ldMR (src : Reg8) | ldMN (n : Byte)
  | ldAFrom (m : MemPtr) | ldATo (m : MemPtr)
  | ldhTo (a8 : Byte) | ldhFrom (a8 : Byte) | ldCTo | ldCFrom | ldAbsTo (a16 : Word) | ldAbsFrom (a16 : Word)
  | ldPair (p : Reg16) (d16 : Word) | ldAbsSP (a16 : Word) | ldSPHL | ldHLSP (e8 : Byte)
  | alu (o : AluOp) (x : Src8)
  | addHL (p : Reg16) | addSP (e8 : Byte) | incPair (p : Reg16) | decPair (p : Reg16)
  | inc8 (x : Loc8) | dec8 (x : Loc8)
  | rot (o : RotOp) (x : Loc8)
  | bit (b : Fin 8) (x : Loc8) | set (b : Fin 8) (x : Loc8) | res (b : Fin 8) (x : Loc8)
  | jp (a16 : Word) | jpCc (cc : Cond) (a16 : Word) | jpHL
  | jr (e8 : Byte) | jrCc (cc : Cond) (e8 : Byte)
  | call (a16 : Word) | callCc (cc : Cond) (a16 : Word)
  | ret | retCc (cc : Cond) | reti | rst (y : Fin 8)
  | push (p : RegStk) | pop (p : RegStk)
  | illegal (op : Byte) | prefixCB
deriving DecidableEq, Repr

end Sys2Proof
end

