-- ==== Sys2Proof/Machine/Forms.lean ====
section
/-! DEFINITION. The form of each instruction: which line of the maps R113 to R117 (30_encoding.md) it is, and which
operand-table entries it names, read off its mnemonic (R120). -/

namespace Sys2Proof

/-- The form of each row of opcode_table.json, from its mnemonic (R120). -/
def Instr.form : Instr → Form
  | .nop => .nop
  | .ldBC_d16 d16 => .ldPair .bc d16
  | .ldMBC_A => .ldATo .bc
  | .incBC => .incPair .bc
  | .incB => .inc8 (.reg .b)
  | .decB => .dec8 (.reg .b)
  | .ldB_d8 d8 => .ldRN .b d8
  | .rlca => .rlca
  | .ldMa16_SP a16 => .ldAbsSP a16
  | .addHL_BC => .addHL .bc
  | .ldA_MBC => .ldAFrom .bc
  | .decBC => .decPair .bc
  | .incC => .inc8 (.reg .c)
  | .decC => .dec8 (.reg .c)
  | .ldC_d8 d8 => .ldRN .c d8
  | .rrca => .rrca
  | .stop pad => .stop pad
  | .ldDE_d16 d16 => .ldPair .de d16
  | .ldMDE_A => .ldATo .de
  | .incDE => .incPair .de
  | .incD => .inc8 (.reg .d)
  | .decD => .dec8 (.reg .d)
  | .ldD_d8 d8 => .ldRN .d d8
  | .rla => .rla
  | .jr_e8 e8 => .jr e8
  | .addHL_DE => .addHL .de
  | .ldA_MDE => .ldAFrom .de
  | .decDE => .decPair .de
  | .incE => .inc8 (.reg .e)
  | .decE => .dec8 (.reg .e)
  | .ldE_d8 d8 => .ldRN .e d8
  | .rra => .rra
  | .jrNZ_e8 e8 => .jrCc .nz e8
  | .ldHL_d16 d16 => .ldPair .hl d16
  | .ldMHLinc_A => .ldATo .hlInc
  | .incHL => .incPair .hl
  | .incH => .inc8 (.reg .h)
  | .decH => .dec8 (.reg .h)
  | .ldH_d8 d8 => .ldRN .h d8
  | .daa => .daa
  | .jrZ_e8 e8 => .jrCc .z e8
  | .addHL_HL => .addHL .hl
  | .ldA_MHLinc => .ldAFrom .hlInc
  | .decHL => .decPair .hl
  | .incL => .inc8 (.reg .l)
  | .decL => .dec8 (.reg .l)
  | .ldL_d8 d8 => .ldRN .l d8
  | .cpl => .cpl
  | .jrNC_e8 e8 => .jrCc .nc e8
  | .ldSP_d16 d16 => .ldPair .sp d16
  | .ldMHLdec_A => .ldATo .hlDec
  | .incSP => .incPair .sp
  | .incMHL => .inc8 .mHL
  | .decMHL => .dec8 .mHL
  | .ldMHL_d8 d8 => .ldMN d8
  | .scf => .scf
  | .jrC_e8 e8 => .jrCc .c e8
  | .addHL_SP => .addHL .sp
  | .ldA_MHLdec => .ldAFrom .hlDec
  | .decSP => .decPair .sp
  | .incA => .inc8 (.reg .a)
  | .decA => .dec8 (.reg .a)
  | .ldA_d8 d8 => .ldRN .a d8
  | .ccf => .ccf
  | .ldB_B => .ldRR .b .b
  | .ldB_C => .ldRR .b .c
  | .ldB_D => .ldRR .b .d
  | .ldB_E => .ldRR .b .e
  | .ldB_H => .ldRR .b .h
  | .ldB_L => .ldRR .b .l
  | .ldB_MHL => .ldRM .b
  | .ldB_A => .ldRR .b .a
  | .ldC_B => .ldRR .c .b
  | .ldC_C => .ldRR .c .c
  | .ldC_D => .ldRR .c .d
  | .ldC_E => .ldRR .c .e
  | .ldC_H => .ldRR .c .h
  | .ldC_L => .ldRR .c .l
  | .ldC_MHL => .ldRM .c
  | .ldC_A => .ldRR .c .a
  | .ldD_B => .ldRR .d .b
  | .ldD_C => .ldRR .d .c
  | .ldD_D => .ldRR .d .d
  | .ldD_E => .ldRR .d .e
  | .ldD_H => .ldRR .d .h
  | .ldD_L => .ldRR .d .l
  | .ldD_MHL => .ldRM .d
  | .ldD_A => .ldRR .d .a
  | .ldE_B => .ldRR .e .b
  | .ldE_C => .ldRR .e .c
  | .ldE_D => .ldRR .e .d
  | .ldE_E => .ldRR .e .e
  | .ldE_H => .ldRR .e .h
  | .ldE_L => .ldRR .e .l
  | .ldE_MHL => .ldRM .e
  | .ldE_A => .ldRR .e .a
  | .ldH_B => .ldRR .h .b
  | .ldH_C => .ldRR .h .c
  | .ldH_D => .ldRR .h .d
  | .ldH_E => .ldRR .h .e
  | .ldH_H => .ldRR .h .h
  | .ldH_L => .ldRR .h .l
  | .ldH_MHL => .ldRM .h
  | .ldH_A => .ldRR .h .a
  | .ldL_B => .ldRR .l .b
  | .ldL_C => .ldRR .l .c
  | .ldL_D => .ldRR .l .d
  | .ldL_E => .ldRR .l .e
  | .ldL_H => .ldRR .l .h
  | .ldL_L => .ldRR .l .l
  | .ldL_MHL => .ldRM .l
  | .ldL_A => .ldRR .l .a
  | .ldMHL_B => .ldMR .b
  | .ldMHL_C => .ldMR .c
  | .ldMHL_D => .ldMR .d
  | .ldMHL_E => .ldMR .e
  | .ldMHL_H => .ldMR .h
  | .ldMHL_L => .ldMR .l
  | .halt => .halt
  | .ldMHL_A => .ldMR .a
  | .ldA_B => .ldRR .a .b
  | .ldA_C => .ldRR .a .c
  | .ldA_D => .ldRR .a .d
  | .ldA_E => .ldRR .a .e
  | .ldA_H => .ldRR .a .h
  | .ldA_L => .ldRR .a .l
  | .ldA_MHL => .ldRM .a
  | .ldA_A => .ldRR .a .a
  | .addA_B => .alu .add (.loc (.reg .b))
  | .addA_C => .alu .add (.loc (.reg .c))
  | .addA_D => .alu .add (.loc (.reg .d))
  | .addA_E => .alu .add (.loc (.reg .e))
  | .addA_H => .alu .add (.loc (.reg .h))
  | .addA_L => .alu .add (.loc (.reg .l))
  | .addA_MHL => .alu .add (.loc .mHL)
  | .addA_A => .alu .add (.loc (.reg .a))
  | .adcA_B => .alu .adc (.loc (.reg .b))
  | .adcA_C => .alu .adc (.loc (.reg .c))
  | .adcA_D => .alu .adc (.loc (.reg .d))
  | .adcA_E => .alu .adc (.loc (.reg .e))
  | .adcA_H => .alu .adc (.loc (.reg .h))
  | .adcA_L => .alu .adc (.loc (.reg .l))
  | .adcA_MHL => .alu .adc (.loc .mHL)
  | .adcA_A => .alu .adc (.loc (.reg .a))
  | .subB => .alu .sub (.loc (.reg .b))
  | .subC => .alu .sub (.loc (.reg .c))
  | .subD => .alu .sub (.loc (.reg .d))
  | .subE => .alu .sub (.loc (.reg .e))
  | .subH => .alu .sub (.loc (.reg .h))
  | .subL => .alu .sub (.loc (.reg .l))
  | .subMHL => .alu .sub (.loc .mHL)
  | .subA => .alu .sub (.loc (.reg .a))
  | .sbcA_B => .alu .sbc (.loc (.reg .b))
  | .sbcA_C => .alu .sbc (.loc (.reg .c))
  | .sbcA_D => .alu .sbc (.loc (.reg .d))
  | .sbcA_E => .alu .sbc (.loc (.reg .e))
  | .sbcA_H => .alu .sbc (.loc (.reg .h))
  | .sbcA_L => .alu .sbc (.loc (.reg .l))
  | .sbcA_MHL => .alu .sbc (.loc .mHL)
  | .sbcA_A => .alu .sbc (.loc (.reg .a))
  | .andB => .alu .and (.loc (.reg .b))
  | .andC => .alu .and (.loc (.reg .c))
  | .andD => .alu .and (.loc (.reg .d))
  | .andE => .alu .and (.loc (.reg .e))
  | .andH => .alu .and (.loc (.reg .h))
  | .andL => .alu .and (.loc (.reg .l))
  | .andMHL => .alu .and (.loc .mHL)
  | .andA => .alu .and (.loc (.reg .a))
  | .xorB => .alu .xor (.loc (.reg .b))
  | .xorC => .alu .xor (.loc (.reg .c))
  | .xorD => .alu .xor (.loc (.reg .d))
  | .xorE => .alu .xor (.loc (.reg .e))
  | .xorH => .alu .xor (.loc (.reg .h))
  | .xorL => .alu .xor (.loc (.reg .l))
  | .xorMHL => .alu .xor (.loc .mHL)
  | .xorA => .alu .xor (.loc (.reg .a))
  | .orB => .alu .or (.loc (.reg .b))
  | .orC => .alu .or (.loc (.reg .c))
  | .orD => .alu .or (.loc (.reg .d))
  | .orE => .alu .or (.loc (.reg .e))
  | .orH => .alu .or (.loc (.reg .h))
  | .orL => .alu .or (.loc (.reg .l))
  | .orMHL => .alu .or (.loc .mHL)
  | .orA => .alu .or (.loc (.reg .a))
  | .cpB => .alu .cp (.loc (.reg .b))
  | .cpC => .alu .cp (.loc (.reg .c))
  | .cpD => .alu .cp (.loc (.reg .d))
  | .cpE => .alu .cp (.loc (.reg .e))
  | .cpH => .alu .cp (.loc (.reg .h))
  | .cpL => .alu .cp (.loc (.reg .l))
  | .cpMHL => .alu .cp (.loc .mHL)
  | .cpA => .alu .cp (.loc (.reg .a))
  | .retNZ => .retCc .nz
  | .popBC => .pop .bc
  | .jpNZ_a16 a16 => .jpCc .nz a16
  | .jp_a16 a16 => .jp a16
  | .callNZ_a16 a16 => .callCc .nz a16
  | .pushBC => .push .bc
  | .addA_d8 d8 => .alu .add (.imm d8)
  | .rst00 => .rst 0
  | .retZ => .retCc .z
  | .ret => .ret
  | .jpZ_a16 a16 => .jpCc .z a16
  | .prefixCB => .prefixCB
  | .callZ_a16 a16 => .callCc .z a16
  | .call_a16 a16 => .call a16
  | .adcA_d8 d8 => .alu .adc (.imm d8)
  | .rst08 => .rst 1
  | .retNC => .retCc .nc
  | .popDE => .pop .de
  | .jpNC_a16 a16 => .jpCc .nc a16
  | .illegalD3 => .illegal 0xD3
  | .callNC_a16 a16 => .callCc .nc a16
  | .pushDE => .push .de
  | .sub_d8 d8 => .alu .sub (.imm d8)
  | .rst10 => .rst 2
  | .retC => .retCc .c
  | .reti => .reti
  | .jpC_a16 a16 => .jpCc .c a16
  | .illegalDB => .illegal 0xDB
  | .callC_a16 a16 => .callCc .c a16
  | .illegalDD => .illegal 0xDD
  | .sbcA_d8 d8 => .alu .sbc (.imm d8)
  | .rst18 => .rst 3
  | .ldhMa8_A a8 => .ldhTo a8
  | .popHL => .pop .hl
  | .ldMC_A => .ldCTo
  | .illegalE3 => .illegal 0xE3
  | .illegalE4 => .illegal 0xE4
  | .pushHL => .push .hl
  | .and_d8 d8 => .alu .and (.imm d8)
  | .rst20 => .rst 4
  | .addSP_e8 e8 => .addSP e8
  | .jpHL => .jpHL
  | .ldMa16_A a16 => .ldAbsTo a16
  | .illegalEB => .illegal 0xEB
  | .illegalEC => .illegal 0xEC
  | .illegalED => .illegal 0xED
  | .xor_d8 d8 => .alu .xor (.imm d8)
  | .rst28 => .rst 5
  | .ldhA_Ma8 a8 => .ldhFrom a8
  | .popAF => .pop .af
  | .ldA_MC => .ldCFrom
  | .di => .di
  | .illegalF4 => .illegal 0xF4
  | .pushAF => .push .af
  | .or_d8 d8 => .alu .or (.imm d8)
  | .rst30 => .rst 6
  | .ldHL_SPe8 e8 => .ldHLSP e8
  | .ldSP_HL => .ldSPHL
  | .ldA_Ma16 a16 => .ldAbsFrom a16
  | .ei => .ei
  | .illegalFC => .illegal 0xFC
  | .illegalFD => .illegal 0xFD
  | .cp_d8 d8 => .alu .cp (.imm d8)
  | .rst38 => .rst 7
  | .rlc_B => .rot .rlc (.reg .b)
  | .rlc_C => .rot .rlc (.reg .c)
  | .rlc_D => .rot .rlc (.reg .d)
  | .rlc_E => .rot .rlc (.reg .e)
  | .rlc_H => .rot .rlc (.reg .h)
  | .rlc_L => .rot .rlc (.reg .l)
  | .rlc_MHL => .rot .rlc .mHL
  | .rlc_A => .rot .rlc (.reg .a)
  | .rrc_B => .rot .rrc (.reg .b)
  | .rrc_C => .rot .rrc (.reg .c)
  | .rrc_D => .rot .rrc (.reg .d)
  | .rrc_E => .rot .rrc (.reg .e)
  | .rrc_H => .rot .rrc (.reg .h)
  | .rrc_L => .rot .rrc (.reg .l)
  | .rrc_MHL => .rot .rrc .mHL
  | .rrc_A => .rot .rrc (.reg .a)
  | .rl_B => .rot .rl (.reg .b)
  | .rl_C => .rot .rl (.reg .c)
  | .rl_D => .rot .rl (.reg .d)
  | .rl_E => .rot .rl (.reg .e)
  | .rl_H => .rot .rl (.reg .h)
  | .rl_L => .rot .rl (.reg .l)
  | .rl_MHL => .rot .rl .mHL
  | .rl_A => .rot .rl (.reg .a)
  | .rr_B => .rot .rr (.reg .b)
  | .rr_C => .rot .rr (.reg .c)
  | .rr_D => .rot .rr (.reg .d)
  | .rr_E => .rot .rr (.reg .e)
  | .rr_H => .rot .rr (.reg .h)
  | .rr_L => .rot .rr (.reg .l)
  | .rr_MHL => .rot .rr .mHL
  | .rr_A => .rot .rr (.reg .a)
  | .slaB => .rot .sla (.reg .b)
  | .slaC => .rot .sla (.reg .c)
  | .slaD => .rot .sla (.reg .d)
  | .slaE => .rot .sla (.reg .e)
  | .slaH => .rot .sla (.reg .h)
  | .slaL => .rot .sla (.reg .l)
  | .slaMHL => .rot .sla .mHL
  | .slaA => .rot .sla (.reg .a)
  | .sraB => .rot .sra (.reg .b)
  | .sraC => .rot .sra (.reg .c)
  | .sraD => .rot .sra (.reg .d)
  | .sraE => .rot .sra (.reg .e)
  | .sraH => .rot .sra (.reg .h)
  | .sraL => .rot .sra (.reg .l)
  | .sraMHL => .rot .sra .mHL
  | .sraA => .rot .sra (.reg .a)
  | .swapB => .rot .swap (.reg .b)
  | .swapC => .rot .swap (.reg .c)
  | .swapD => .rot .swap (.reg .d)
  | .swapE => .rot .swap (.reg .e)
  | .swapH => .rot .swap (.reg .h)
  | .swapL => .rot .swap (.reg .l)
  | .swapMHL => .rot .swap .mHL
  | .swapA => .rot .swap (.reg .a)
  | .srlB => .rot .srl (.reg .b)
  | .srlC => .rot .srl (.reg .c)
  | .srlD => .rot .srl (.reg .d)
  | .srlE => .rot .srl (.reg .e)
  | .srlH => .rot .srl (.reg .h)
  | .srlL => .rot .srl (.reg .l)
  | .srlMHL => .rot .srl .mHL
  | .srlA => .rot .srl (.reg .a)
  | .bit0_B => .bit 0 (.reg .b)
  | .bit0_C => .bit 0 (.reg .c)
  | .bit0_D => .bit 0 (.reg .d)
  | .bit0_E => .bit 0 (.reg .e)
  | .bit0_H => .bit 0 (.reg .h)
  | .bit0_L => .bit 0 (.reg .l)
  | .bit0_MHL => .bit 0 .mHL
  | .bit0_A => .bit 0 (.reg .a)
  | .bit1_B => .bit 1 (.reg .b)
  | .bit1_C => .bit 1 (.reg .c)
  | .bit1_D => .bit 1 (.reg .d)
  | .bit1_E => .bit 1 (.reg .e)
  | .bit1_H => .bit 1 (.reg .h)
  | .bit1_L => .bit 1 (.reg .l)
  | .bit1_MHL => .bit 1 .mHL
  | .bit1_A => .bit 1 (.reg .a)
  | .bit2_B => .bit 2 (.reg .b)
  | .bit2_C => .bit 2 (.reg .c)
  | .bit2_D => .bit 2 (.reg .d)
  | .bit2_E => .bit 2 (.reg .e)
  | .bit2_H => .bit 2 (.reg .h)
  | .bit2_L => .bit 2 (.reg .l)
  | .bit2_MHL => .bit 2 .mHL
  | .bit2_A => .bit 2 (.reg .a)
  | .bit3_B => .bit 3 (.reg .b)
  | .bit3_C => .bit 3 (.reg .c)
  | .bit3_D => .bit 3 (.reg .d)
  | .bit3_E => .bit 3 (.reg .e)
  | .bit3_H => .bit 3 (.reg .h)
  | .bit3_L => .bit 3 (.reg .l)
  | .bit3_MHL => .bit 3 .mHL
  | .bit3_A => .bit 3 (.reg .a)
  | .bit4_B => .bit 4 (.reg .b)
  | .bit4_C => .bit 4 (.reg .c)
  | .bit4_D => .bit 4 (.reg .d)
  | .bit4_E => .bit 4 (.reg .e)
  | .bit4_H => .bit 4 (.reg .h)
  | .bit4_L => .bit 4 (.reg .l)
  | .bit4_MHL => .bit 4 .mHL
  | .bit4_A => .bit 4 (.reg .a)
  | .bit5_B => .bit 5 (.reg .b)
  | .bit5_C => .bit 5 (.reg .c)
  | .bit5_D => .bit 5 (.reg .d)
  | .bit5_E => .bit 5 (.reg .e)
  | .bit5_H => .bit 5 (.reg .h)
  | .bit5_L => .bit 5 (.reg .l)
  | .bit5_MHL => .bit 5 .mHL
  | .bit5_A => .bit 5 (.reg .a)
  | .bit6_B => .bit 6 (.reg .b)
  | .bit6_C => .bit 6 (.reg .c)
  | .bit6_D => .bit 6 (.reg .d)
  | .bit6_E => .bit 6 (.reg .e)
  | .bit6_H => .bit 6 (.reg .h)
  | .bit6_L => .bit 6 (.reg .l)
  | .bit6_MHL => .bit 6 .mHL
  | .bit6_A => .bit 6 (.reg .a)
  | .bit7_B => .bit 7 (.reg .b)
  | .bit7_C => .bit 7 (.reg .c)
  | .bit7_D => .bit 7 (.reg .d)
  | .bit7_E => .bit 7 (.reg .e)
  | .bit7_H => .bit 7 (.reg .h)
  | .bit7_L => .bit 7 (.reg .l)
  | .bit7_MHL => .bit 7 .mHL
  | .bit7_A => .bit 7 (.reg .a)
  | .res0_B => .res 0 (.reg .b)
  | .res0_C => .res 0 (.reg .c)
  | .res0_D => .res 0 (.reg .d)
  | .res0_E => .res 0 (.reg .e)
  | .res0_H => .res 0 (.reg .h)
  | .res0_L => .res 0 (.reg .l)
  | .res0_MHL => .res 0 .mHL
  | .res0_A => .res 0 (.reg .a)
  | .res1_B => .res 1 (.reg .b)
  | .res1_C => .res 1 (.reg .c)
  | .res1_D => .res 1 (.reg .d)
  | .res1_E => .res 1 (.reg .e)
  | .res1_H => .res 1 (.reg .h)
  | .res1_L => .res 1 (.reg .l)
  | .res1_MHL => .res 1 .mHL
  | .res1_A => .res 1 (.reg .a)
  | .res2_B => .res 2 (.reg .b)
  | .res2_C => .res 2 (.reg .c)
  | .res2_D => .res 2 (.reg .d)
  | .res2_E => .res 2 (.reg .e)
  | .res2_H => .res 2 (.reg .h)
  | .res2_L => .res 2 (.reg .l)
  | .res2_MHL => .res 2 .mHL
  | .res2_A => .res 2 (.reg .a)
  | .res3_B => .res 3 (.reg .b)
  | .res3_C => .res 3 (.reg .c)
  | .res3_D => .res 3 (.reg .d)
  | .res3_E => .res 3 (.reg .e)
  | .res3_H => .res 3 (.reg .h)
  | .res3_L => .res 3 (.reg .l)
  | .res3_MHL => .res 3 .mHL
  | .res3_A => .res 3 (.reg .a)
  | .res4_B => .res 4 (.reg .b)
  | .res4_C => .res 4 (.reg .c)
  | .res4_D => .res 4 (.reg .d)
  | .res4_E => .res 4 (.reg .e)
  | .res4_H => .res 4 (.reg .h)
  | .res4_L => .res 4 (.reg .l)
  | .res4_MHL => .res 4 .mHL
  | .res4_A => .res 4 (.reg .a)
  | .res5_B => .res 5 (.reg .b)
  | .res5_C => .res 5 (.reg .c)
  | .res5_D => .res 5 (.reg .d)
  | .res5_E => .res 5 (.reg .e)
  | .res5_H => .res 5 (.reg .h)
  | .res5_L => .res 5 (.reg .l)
  | .res5_MHL => .res 5 .mHL
  | .res5_A => .res 5 (.reg .a)
  | .res6_B => .res 6 (.reg .b)
  | .res6_C => .res 6 (.reg .c)
  | .res6_D => .res 6 (.reg .d)
  | .res6_E => .res 6 (.reg .e)
  | .res6_H => .res 6 (.reg .h)
  | .res6_L => .res 6 (.reg .l)
  | .res6_MHL => .res 6 .mHL
  | .res6_A => .res 6 (.reg .a)
  | .res7_B => .res 7 (.reg .b)
  | .res7_C => .res 7 (.reg .c)
  | .res7_D => .res 7 (.reg .d)
  | .res7_E => .res 7 (.reg .e)
  | .res7_H => .res 7 (.reg .h)
  | .res7_L => .res 7 (.reg .l)
  | .res7_MHL => .res 7 .mHL
  | .res7_A => .res 7 (.reg .a)
  | .set0_B => .set 0 (.reg .b)
  | .set0_C => .set 0 (.reg .c)
  | .set0_D => .set 0 (.reg .d)
  | .set0_E => .set 0 (.reg .e)
  | .set0_H => .set 0 (.reg .h)
  | .set0_L => .set 0 (.reg .l)
  | .set0_MHL => .set 0 .mHL
  | .set0_A => .set 0 (.reg .a)
  | .set1_B => .set 1 (.reg .b)
  | .set1_C => .set 1 (.reg .c)
  | .set1_D => .set 1 (.reg .d)
  | .set1_E => .set 1 (.reg .e)
  | .set1_H => .set 1 (.reg .h)
  | .set1_L => .set 1 (.reg .l)
  | .set1_MHL => .set 1 .mHL
  | .set1_A => .set 1 (.reg .a)
  | .set2_B => .set 2 (.reg .b)
  | .set2_C => .set 2 (.reg .c)
  | .set2_D => .set 2 (.reg .d)
  | .set2_E => .set 2 (.reg .e)
  | .set2_H => .set 2 (.reg .h)
  | .set2_L => .set 2 (.reg .l)
  | .set2_MHL => .set 2 .mHL
  | .set2_A => .set 2 (.reg .a)
  | .set3_B => .set 3 (.reg .b)
  | .set3_C => .set 3 (.reg .c)
  | .set3_D => .set 3 (.reg .d)
  | .set3_E => .set 3 (.reg .e)
  | .set3_H => .set 3 (.reg .h)
  | .set3_L => .set 3 (.reg .l)
  | .set3_MHL => .set 3 .mHL
  | .set3_A => .set 3 (.reg .a)
  | .set4_B => .set 4 (.reg .b)
  | .set4_C => .set 4 (.reg .c)
  | .set4_D => .set 4 (.reg .d)
  | .set4_E => .set 4 (.reg .e)
  | .set4_H => .set 4 (.reg .h)
  | .set4_L => .set 4 (.reg .l)
  | .set4_MHL => .set 4 .mHL
  | .set4_A => .set 4 (.reg .a)
  | .set5_B => .set 5 (.reg .b)
  | .set5_C => .set 5 (.reg .c)
  | .set5_D => .set 5 (.reg .d)
  | .set5_E => .set 5 (.reg .e)
  | .set5_H => .set 5 (.reg .h)
  | .set5_L => .set 5 (.reg .l)
  | .set5_MHL => .set 5 .mHL
  | .set5_A => .set 5 (.reg .a)
  | .set6_B => .set 6 (.reg .b)
  | .set6_C => .set 6 (.reg .c)
  | .set6_D => .set 6 (.reg .d)
  | .set6_E => .set 6 (.reg .e)
  | .set6_H => .set 6 (.reg .h)
  | .set6_L => .set 6 (.reg .l)
  | .set6_MHL => .set 6 .mHL
  | .set6_A => .set 6 (.reg .a)
  | .set7_B => .set 7 (.reg .b)
  | .set7_C => .set 7 (.reg .c)
  | .set7_D => .set 7 (.reg .d)
  | .set7_E => .set 7 (.reg .e)
  | .set7_H => .set 7 (.reg .h)
  | .set7_L => .set 7 (.reg .l)
  | .set7_MHL => .set 7 .mHL
  | .set7_A => .set 7 (.reg .a)

end Sys2Proof
end

