-- ==== Sys2Proof/WellFormed.lean ====
section
/-! DEFINITION. Which terms of Instr are instructions of the map: an illegal row selects no instruction (R118, R370),
the prefix row is not an instruction (R371), and STOP is "valid only when followed by 0x00" (R363). Every operand of
every other row is free: its type is exactly the values its encoding admits (R100). -/

namespace Sys2Proof

/-- The check on forms, constructor by constructor. -/
def Form.wellFormed : Form → Bool
  | .stop pad => pad == 0x00
  | .illegal _ | .prefixCB => false
  | .nop | .halt | .di | .ei | .scf | .ccf | .cpl | .daa | .rlca | .rrca | .rla | .rra => true
  | .ldRR _ _ | .ldRN _ _ | .ldRM _ | .ldMR _ | .ldMN _ | .ldAFrom _ | .ldATo _ => true
  | .ldhTo _ | .ldhFrom _ | .ldCTo | .ldCFrom | .ldAbsTo _ | .ldAbsFrom _ => true
  | .ldPair _ _ | .ldAbsSP _ | .ldSPHL | .ldHLSP _ => true
  | .alu _ _ | .addHL _ | .addSP _ | .incPair _ | .decPair _ | .inc8 _ | .dec8 _ => true
  | .rot _ _ | .bit _ _ | .set _ _ | .res _ _ => true
  | .jp _ | .jpCc _ _ | .jpHL | .jr _ | .jrCc _ _ | .call _ | .callCc _ _ => true
  | .ret | .retCc _ | .reti | .rst _ | .push _ | .pop _ => true

/-- Whether a term is an instruction of the map. -/
def Instr.wellFormed (i : Instr) : Bool := i.form.wellFormed

end Sys2Proof
end

