-- ==== Sys2Proof/Decode.lean ====
section
/-! DEFINITION. From bytes to instructions and back (30_encoding.md R100 to R123): byte order of immediates, the
length table R101, the two opcode maps as tables (section 6), the decoder on a list of bytes, the second reading of
the maps by the fields x, y, z, p, q (R102, R113 to R117), the encoder, and the host's numbering of a table word. -/

namespace Sys2Proof

/-- `hi ## lo` (R8): "word = hi<<8 | lo always", little-endian in the instruction stream and in memory (R76, R109). -/
def word16 (hi lo : Byte) : Word := BitVec.ofNat 16 (hi.toNat * 256 + lo.toNat)

/-- Bits 15..8 of a word (R22). -/
def hiByte (w : Word) : Byte := BitVec.ofNat 8 (w.toNat / 256)

/-- Bits 7..0 of a word (R22). -/
def loByte (w : Word) : Byte := BitVec.ofNat 8 w.toNat

/-- The opcodes of three-byte instructions, as R101 lists them. -/
def threeByteOpcodes : List Byte :=
  [0x01, 0x11, 0x21, 0x31, 0x08, 0xC2, 0xCA, 0xD2, 0xDA, 0xC3, 0xC4, 0xCC, 0xD4, 0xDC, 0xCD, 0xEA, 0xFA]

/-- The opcodes of two-byte instructions, as R101 lists them, and the 0xCB prefix, whose forms have length 2. -/
def twoByteOpcodes : List Byte :=
  [0x06, 0x0E, 0x16, 0x1E, 0x26, 0x2E, 0x36, 0x3E, 0x10, 0x18, 0x20, 0x28, 0x30, 0x38,
   0xC6, 0xCE, 0xD6, 0xDE, 0xE6, 0xEE, 0xF6, 0xFE, 0xE0, 0xF0, 0xE8, 0xF8, 0xCB]

/-- `len` of an instruction, a function of byte 0 alone (R101). -/
def opLength (b0 : Byte) : Nat :=
  if b0 ∈ threeByteOpcodes then 3 else if b0 ∈ twoByteOpcodes then 2 else 1

/-! ### The fields of an opcode byte (R102) -/

/-- x = op[7:6] (R102). -/
def fieldX (op : Byte) : Fin 4 := ⟨op.toNat / 64, by have := op.isLt; omega⟩
/-- y = op[5:3] (R102). -/
def fieldY (op : Byte) : Fin 8 := ⟨op.toNat / 8 % 8, Nat.mod_lt _ (by decide)⟩
/-- z = op[2:0] (R102). -/
def fieldZ (op : Byte) : Fin 8 := ⟨op.toNat % 8, Nat.mod_lt _ (by decide)⟩
/-- p = op[5:4] (R102). -/
def fieldP (op : Byte) : Fin 4 := ⟨op.toNat / 16 % 4, Nat.mod_lt _ (by decide)⟩
/-- q = op[3] (R102). -/
def fieldQ (op : Byte) : Fin 2 := ⟨op.toNat / 8 % 2, Nat.mod_lt _ (by decide)⟩


/-! ### The base map (section 6.1), eight opcodes a row; byte 1 and byte 2 give the immediates -/

/-- Opcodes 0x00 to 0x07. -/
def baseRow00 (z : Fin 8) (b1 b2 : Byte) : Instr :=
  match z with
  | 0 => .nop
  | 1 => .ldBC_d16 (word16 b2 b1)
  | 2 => .ldMBC_A
  | 3 => .incBC
  | 4 => .incB
  | 5 => .decB
  | 6 => .ldB_d8 b1
  | 7 => .rlca

/-- Opcodes 0x08 to 0x0F. -/
def baseRow08 (z : Fin 8) (b1 b2 : Byte) : Instr :=
  match z with
  | 0 => .ldMa16_SP (word16 b2 b1)
  | 1 => .addHL_BC
  | 2 => .ldA_MBC
  | 3 => .decBC
  | 4 => .incC
  | 5 => .decC
  | 6 => .ldC_d8 b1
  | 7 => .rrca

/-- Opcodes 0x10 to 0x17. -/
def baseRow10 (z : Fin 8) (b1 b2 : Byte) : Instr :=
  match z with
  | 0 => .stop b1
  | 1 => .ldDE_d16 (word16 b2 b1)
  | 2 => .ldMDE_A
  | 3 => .incDE
  | 4 => .incD
  | 5 => .decD
  | 6 => .ldD_d8 b1
  | 7 => .rla

/-- Opcodes 0x18 to 0x1F. -/
def baseRow18 (z : Fin 8) (b1 _b2 : Byte) : Instr :=
  match z with
  | 0 => .jr_e8 b1
  | 1 => .addHL_DE
  | 2 => .ldA_MDE
  | 3 => .decDE
  | 4 => .incE
  | 5 => .decE
  | 6 => .ldE_d8 b1
  | 7 => .rra

/-- Opcodes 0x20 to 0x27. -/
def baseRow20 (z : Fin 8) (b1 b2 : Byte) : Instr :=
  match z with
  | 0 => .jrNZ_e8 b1
  | 1 => .ldHL_d16 (word16 b2 b1)
  | 2 => .ldMHLinc_A
  | 3 => .incHL
  | 4 => .incH
  | 5 => .decH
  | 6 => .ldH_d8 b1
  | 7 => .daa

/-- Opcodes 0x28 to 0x2F. -/
def baseRow28 (z : Fin 8) (b1 _b2 : Byte) : Instr :=
  match z with
  | 0 => .jrZ_e8 b1
  | 1 => .addHL_HL
  | 2 => .ldA_MHLinc
  | 3 => .decHL
  | 4 => .incL
  | 5 => .decL
  | 6 => .ldL_d8 b1
  | 7 => .cpl

/-- Opcodes 0x30 to 0x37. -/
def baseRow30 (z : Fin 8) (b1 b2 : Byte) : Instr :=
  match z with
  | 0 => .jrNC_e8 b1
  | 1 => .ldSP_d16 (word16 b2 b1)
  | 2 => .ldMHLdec_A
  | 3 => .incSP
  | 4 => .incMHL
  | 5 => .decMHL
  | 6 => .ldMHL_d8 b1
  | 7 => .scf

/-- Opcodes 0x38 to 0x3F. -/
def baseRow38 (z : Fin 8) (b1 _b2 : Byte) : Instr :=
  match z with
  | 0 => .jrC_e8 b1
  | 1 => .addHL_SP
  | 2 => .ldA_MHLdec
  | 3 => .decSP
  | 4 => .incA
  | 5 => .decA
  | 6 => .ldA_d8 b1
  | 7 => .ccf

/-- Opcodes 0x40 to 0x47. -/
def baseRow40 (z : Fin 8) : Instr :=
  match z with
  | 0 => .ldB_B
  | 1 => .ldB_C
  | 2 => .ldB_D
  | 3 => .ldB_E
  | 4 => .ldB_H
  | 5 => .ldB_L
  | 6 => .ldB_MHL
  | 7 => .ldB_A

/-- Opcodes 0x48 to 0x4F. -/
def baseRow48 (z : Fin 8) : Instr :=
  match z with
  | 0 => .ldC_B
  | 1 => .ldC_C
  | 2 => .ldC_D
  | 3 => .ldC_E
  | 4 => .ldC_H
  | 5 => .ldC_L
  | 6 => .ldC_MHL
  | 7 => .ldC_A

/-- Opcodes 0x50 to 0x57. -/
def baseRow50 (z : Fin 8) : Instr :=
  match z with
  | 0 => .ldD_B
  | 1 => .ldD_C
  | 2 => .ldD_D
  | 3 => .ldD_E
  | 4 => .ldD_H
  | 5 => .ldD_L
  | 6 => .ldD_MHL
  | 7 => .ldD_A

/-- Opcodes 0x58 to 0x5F. -/
def baseRow58 (z : Fin 8) : Instr :=
  match z with
  | 0 => .ldE_B
  | 1 => .ldE_C
  | 2 => .ldE_D
  | 3 => .ldE_E
  | 4 => .ldE_H
  | 5 => .ldE_L
  | 6 => .ldE_MHL
  | 7 => .ldE_A

/-- Opcodes 0x60 to 0x67. -/
def baseRow60 (z : Fin 8) : Instr :=
  match z with
  | 0 => .ldH_B
  | 1 => .ldH_C
  | 2 => .ldH_D
  | 3 => .ldH_E
  | 4 => .ldH_H
  | 5 => .ldH_L
  | 6 => .ldH_MHL
  | 7 => .ldH_A

/-- Opcodes 0x68 to 0x6F. -/
def baseRow68 (z : Fin 8) : Instr :=
  match z with
  | 0 => .ldL_B
  | 1 => .ldL_C
  | 2 => .ldL_D
  | 3 => .ldL_E
  | 4 => .ldL_H
  | 5 => .ldL_L
  | 6 => .ldL_MHL
  | 7 => .ldL_A

/-- Opcodes 0x70 to 0x77. -/
def baseRow70 (z : Fin 8) : Instr :=
  match z with
  | 0 => .ldMHL_B
  | 1 => .ldMHL_C
  | 2 => .ldMHL_D
  | 3 => .ldMHL_E
  | 4 => .ldMHL_H
  | 5 => .ldMHL_L
  | 6 => .halt
  | 7 => .ldMHL_A

/-- Opcodes 0x78 to 0x7F. -/
def baseRow78 (z : Fin 8) : Instr :=
  match z with
  | 0 => .ldA_B
  | 1 => .ldA_C
  | 2 => .ldA_D
  | 3 => .ldA_E
  | 4 => .ldA_H
  | 5 => .ldA_L
  | 6 => .ldA_MHL
  | 7 => .ldA_A

/-- Opcodes 0x80 to 0x87. -/
def baseRow80 (z : Fin 8) : Instr :=
  match z with
  | 0 => .addA_B
  | 1 => .addA_C
  | 2 => .addA_D
  | 3 => .addA_E
  | 4 => .addA_H
  | 5 => .addA_L
  | 6 => .addA_MHL
  | 7 => .addA_A

/-- Opcodes 0x88 to 0x8F. -/
def baseRow88 (z : Fin 8) : Instr :=
  match z with
  | 0 => .adcA_B
  | 1 => .adcA_C
  | 2 => .adcA_D
  | 3 => .adcA_E
  | 4 => .adcA_H
  | 5 => .adcA_L
  | 6 => .adcA_MHL
  | 7 => .adcA_A

/-- Opcodes 0x90 to 0x97. -/
def baseRow90 (z : Fin 8) : Instr :=
  match z with
  | 0 => .subB
  | 1 => .subC
  | 2 => .subD
  | 3 => .subE
  | 4 => .subH
  | 5 => .subL
  | 6 => .subMHL
  | 7 => .subA

/-- Opcodes 0x98 to 0x9F. -/
def baseRow98 (z : Fin 8) : Instr :=
  match z with
  | 0 => .sbcA_B
  | 1 => .sbcA_C
  | 2 => .sbcA_D
  | 3 => .sbcA_E
  | 4 => .sbcA_H
  | 5 => .sbcA_L
  | 6 => .sbcA_MHL
  | 7 => .sbcA_A

/-- Opcodes 0xA0 to 0xA7. -/
def baseRowA0 (z : Fin 8) : Instr :=
  match z with
  | 0 => .andB
  | 1 => .andC
  | 2 => .andD
  | 3 => .andE
  | 4 => .andH
  | 5 => .andL
  | 6 => .andMHL
  | 7 => .andA

/-- Opcodes 0xA8 to 0xAF. -/
def baseRowA8 (z : Fin 8) : Instr :=
  match z with
  | 0 => .xorB
  | 1 => .xorC
  | 2 => .xorD
  | 3 => .xorE
  | 4 => .xorH
  | 5 => .xorL
  | 6 => .xorMHL
  | 7 => .xorA

/-- Opcodes 0xB0 to 0xB7. -/
def baseRowB0 (z : Fin 8) : Instr :=
  match z with
  | 0 => .orB
  | 1 => .orC
  | 2 => .orD
  | 3 => .orE
  | 4 => .orH
  | 5 => .orL
  | 6 => .orMHL
  | 7 => .orA

/-- Opcodes 0xB8 to 0xBF. -/
def baseRowB8 (z : Fin 8) : Instr :=
  match z with
  | 0 => .cpB
  | 1 => .cpC
  | 2 => .cpD
  | 3 => .cpE
  | 4 => .cpH
  | 5 => .cpL
  | 6 => .cpMHL
  | 7 => .cpA

/-- Opcodes 0xC0 to 0xC7. -/
def baseRowC0 (z : Fin 8) (b1 b2 : Byte) : Instr :=
  match z with
  | 0 => .retNZ
  | 1 => .popBC
  | 2 => .jpNZ_a16 (word16 b2 b1)
  | 3 => .jp_a16 (word16 b2 b1)
  | 4 => .callNZ_a16 (word16 b2 b1)
  | 5 => .pushBC
  | 6 => .addA_d8 b1
  | 7 => .rst00

/-- Opcodes 0xC8 to 0xCF. -/
def baseRowC8 (z : Fin 8) (b1 b2 : Byte) : Instr :=
  match z with
  | 0 => .retZ
  | 1 => .ret
  | 2 => .jpZ_a16 (word16 b2 b1)
  | 3 => .prefixCB
  | 4 => .callZ_a16 (word16 b2 b1)
  | 5 => .call_a16 (word16 b2 b1)
  | 6 => .adcA_d8 b1
  | 7 => .rst08

/-- Opcodes 0xD0 to 0xD7. -/
def baseRowD0 (z : Fin 8) (b1 b2 : Byte) : Instr :=
  match z with
  | 0 => .retNC
  | 1 => .popDE
  | 2 => .jpNC_a16 (word16 b2 b1)
  | 3 => .illegalD3
  | 4 => .callNC_a16 (word16 b2 b1)
  | 5 => .pushDE
  | 6 => .sub_d8 b1
  | 7 => .rst10

/-- Opcodes 0xD8 to 0xDF. -/
def baseRowD8 (z : Fin 8) (b1 b2 : Byte) : Instr :=
  match z with
  | 0 => .retC
  | 1 => .reti
  | 2 => .jpC_a16 (word16 b2 b1)
  | 3 => .illegalDB
  | 4 => .callC_a16 (word16 b2 b1)
  | 5 => .illegalDD
  | 6 => .sbcA_d8 b1
  | 7 => .rst18

/-- Opcodes 0xE0 to 0xE7. -/
def baseRowE0 (z : Fin 8) (b1 _b2 : Byte) : Instr :=
  match z with
  | 0 => .ldhMa8_A b1
  | 1 => .popHL
  | 2 => .ldMC_A
  | 3 => .illegalE3
  | 4 => .illegalE4
  | 5 => .pushHL
  | 6 => .and_d8 b1
  | 7 => .rst20

/-- Opcodes 0xE8 to 0xEF. -/
def baseRowE8 (z : Fin 8) (b1 b2 : Byte) : Instr :=
  match z with
  | 0 => .addSP_e8 b1
  | 1 => .jpHL
  | 2 => .ldMa16_A (word16 b2 b1)
  | 3 => .illegalEB
  | 4 => .illegalEC
  | 5 => .illegalED
  | 6 => .xor_d8 b1
  | 7 => .rst28

/-- Opcodes 0xF0 to 0xF7. -/
def baseRowF0 (z : Fin 8) (b1 _b2 : Byte) : Instr :=
  match z with
  | 0 => .ldhA_Ma8 b1
  | 1 => .popAF
  | 2 => .ldA_MC
  | 3 => .di
  | 4 => .illegalF4
  | 5 => .pushAF
  | 6 => .or_d8 b1
  | 7 => .rst30

/-- Opcodes 0xF8 to 0xFF. -/
def baseRowF8 (z : Fin 8) (b1 b2 : Byte) : Instr :=
  match z with
  | 0 => .ldHL_SPe8 b1
  | 1 => .ldSP_HL
  | 2 => .ldA_Ma16 (word16 b2 b1)
  | 3 => .ei
  | 4 => .illegalFC
  | 5 => .illegalFD
  | 6 => .cp_d8 b1
  | 7 => .rst38

/-- BASETABLE (R110, R113 to R116) at byte 0, with byte 1 and byte 2. -/
def baseInstr (b0 b1 b2 : Byte) : Instr :=
  match fieldX b0, fieldY b0 with
  | 0, 0 => baseRow00 (fieldZ b0) b1 b2
  | 0, 1 => baseRow08 (fieldZ b0) b1 b2
  | 0, 2 => baseRow10 (fieldZ b0) b1 b2
  | 0, 3 => baseRow18 (fieldZ b0) b1 b2
  | 0, 4 => baseRow20 (fieldZ b0) b1 b2
  | 0, 5 => baseRow28 (fieldZ b0) b1 b2
  | 0, 6 => baseRow30 (fieldZ b0) b1 b2
  | 0, 7 => baseRow38 (fieldZ b0) b1 b2
  | 1, 0 => baseRow40 (fieldZ b0)
  | 1, 1 => baseRow48 (fieldZ b0)
  | 1, 2 => baseRow50 (fieldZ b0)
  | 1, 3 => baseRow58 (fieldZ b0)
  | 1, 4 => baseRow60 (fieldZ b0)
  | 1, 5 => baseRow68 (fieldZ b0)
  | 1, 6 => baseRow70 (fieldZ b0)
  | 1, 7 => baseRow78 (fieldZ b0)
  | 2, 0 => baseRow80 (fieldZ b0)
  | 2, 1 => baseRow88 (fieldZ b0)
  | 2, 2 => baseRow90 (fieldZ b0)
  | 2, 3 => baseRow98 (fieldZ b0)
  | 2, 4 => baseRowA0 (fieldZ b0)
  | 2, 5 => baseRowA8 (fieldZ b0)
  | 2, 6 => baseRowB0 (fieldZ b0)
  | 2, 7 => baseRowB8 (fieldZ b0)
  | 3, 0 => baseRowC0 (fieldZ b0) b1 b2
  | 3, 1 => baseRowC8 (fieldZ b0) b1 b2
  | 3, 2 => baseRowD0 (fieldZ b0) b1 b2
  | 3, 3 => baseRowD8 (fieldZ b0) b1 b2
  | 3, 4 => baseRowE0 (fieldZ b0) b1 b2
  | 3, 5 => baseRowE8 (fieldZ b0) b1 b2
  | 3, 6 => baseRowF0 (fieldZ b0) b1 b2
  | 3, 7 => baseRowF8 (fieldZ b0) b1 b2

/-! ### The extended map (section 6.2), by byte 1 after 0xCB -/

/-- CB 00 to CB 07. -/
def extRow00 (z : Fin 8) : Instr :=
  match z with
  | 0 => .rlc_B
  | 1 => .rlc_C
  | 2 => .rlc_D
  | 3 => .rlc_E
  | 4 => .rlc_H
  | 5 => .rlc_L
  | 6 => .rlc_MHL
  | 7 => .rlc_A

/-- CB 08 to CB 0F. -/
def extRow08 (z : Fin 8) : Instr :=
  match z with
  | 0 => .rrc_B
  | 1 => .rrc_C
  | 2 => .rrc_D
  | 3 => .rrc_E
  | 4 => .rrc_H
  | 5 => .rrc_L
  | 6 => .rrc_MHL
  | 7 => .rrc_A

/-- CB 10 to CB 17. -/
def extRow10 (z : Fin 8) : Instr :=
  match z with
  | 0 => .rl_B
  | 1 => .rl_C
  | 2 => .rl_D
  | 3 => .rl_E
  | 4 => .rl_H
  | 5 => .rl_L
  | 6 => .rl_MHL
  | 7 => .rl_A

/-- CB 18 to CB 1F. -/
def extRow18 (z : Fin 8) : Instr :=
  match z with
  | 0 => .rr_B
  | 1 => .rr_C
  | 2 => .rr_D
  | 3 => .rr_E
  | 4 => .rr_H
  | 5 => .rr_L
  | 6 => .rr_MHL
  | 7 => .rr_A

/-- CB 20 to CB 27. -/
def extRow20 (z : Fin 8) : Instr :=
  match z with
  | 0 => .slaB
  | 1 => .slaC
  | 2 => .slaD
  | 3 => .slaE
  | 4 => .slaH
  | 5 => .slaL
  | 6 => .slaMHL
  | 7 => .slaA

/-- CB 28 to CB 2F. -/
def extRow28 (z : Fin 8) : Instr :=
  match z with
  | 0 => .sraB
  | 1 => .sraC
  | 2 => .sraD
  | 3 => .sraE
  | 4 => .sraH
  | 5 => .sraL
  | 6 => .sraMHL
  | 7 => .sraA

/-- CB 30 to CB 37. -/
def extRow30 (z : Fin 8) : Instr :=
  match z with
  | 0 => .swapB
  | 1 => .swapC
  | 2 => .swapD
  | 3 => .swapE
  | 4 => .swapH
  | 5 => .swapL
  | 6 => .swapMHL
  | 7 => .swapA

/-- CB 38 to CB 3F. -/
def extRow38 (z : Fin 8) : Instr :=
  match z with
  | 0 => .srlB
  | 1 => .srlC
  | 2 => .srlD
  | 3 => .srlE
  | 4 => .srlH
  | 5 => .srlL
  | 6 => .srlMHL
  | 7 => .srlA

/-- CB 40 to CB 47. -/
def extRow40 (z : Fin 8) : Instr :=
  match z with
  | 0 => .bit0_B
  | 1 => .bit0_C
  | 2 => .bit0_D
  | 3 => .bit0_E
  | 4 => .bit0_H
  | 5 => .bit0_L
  | 6 => .bit0_MHL
  | 7 => .bit0_A

/-- CB 48 to CB 4F. -/
def extRow48 (z : Fin 8) : Instr :=
  match z with
  | 0 => .bit1_B
  | 1 => .bit1_C
  | 2 => .bit1_D
  | 3 => .bit1_E
  | 4 => .bit1_H
  | 5 => .bit1_L
  | 6 => .bit1_MHL
  | 7 => .bit1_A

/-- CB 50 to CB 57. -/
def extRow50 (z : Fin 8) : Instr :=
  match z with
  | 0 => .bit2_B
  | 1 => .bit2_C
  | 2 => .bit2_D
  | 3 => .bit2_E
  | 4 => .bit2_H
  | 5 => .bit2_L
  | 6 => .bit2_MHL
  | 7 => .bit2_A

/-- CB 58 to CB 5F. -/
def extRow58 (z : Fin 8) : Instr :=
  match z with
  | 0 => .bit3_B
  | 1 => .bit3_C
  | 2 => .bit3_D
  | 3 => .bit3_E
  | 4 => .bit3_H
  | 5 => .bit3_L
  | 6 => .bit3_MHL
  | 7 => .bit3_A

/-- CB 60 to CB 67. -/
def extRow60 (z : Fin 8) : Instr :=
  match z with
  | 0 => .bit4_B
  | 1 => .bit4_C
  | 2 => .bit4_D
  | 3 => .bit4_E
  | 4 => .bit4_H
  | 5 => .bit4_L
  | 6 => .bit4_MHL
  | 7 => .bit4_A

/-- CB 68 to CB 6F. -/
def extRow68 (z : Fin 8) : Instr :=
  match z with
  | 0 => .bit5_B
  | 1 => .bit5_C
  | 2 => .bit5_D
  | 3 => .bit5_E
  | 4 => .bit5_H
  | 5 => .bit5_L
  | 6 => .bit5_MHL
  | 7 => .bit5_A

/-- CB 70 to CB 77. -/
def extRow70 (z : Fin 8) : Instr :=
  match z with
  | 0 => .bit6_B
  | 1 => .bit6_C
  | 2 => .bit6_D
  | 3 => .bit6_E
  | 4 => .bit6_H
  | 5 => .bit6_L
  | 6 => .bit6_MHL
  | 7 => .bit6_A

/-- CB 78 to CB 7F. -/
def extRow78 (z : Fin 8) : Instr :=
  match z with
  | 0 => .bit7_B
  | 1 => .bit7_C
  | 2 => .bit7_D
  | 3 => .bit7_E
  | 4 => .bit7_H
  | 5 => .bit7_L
  | 6 => .bit7_MHL
  | 7 => .bit7_A

/-- CB 80 to CB 87. -/
def extRow80 (z : Fin 8) : Instr :=
  match z with
  | 0 => .res0_B
  | 1 => .res0_C
  | 2 => .res0_D
  | 3 => .res0_E
  | 4 => .res0_H
  | 5 => .res0_L
  | 6 => .res0_MHL
  | 7 => .res0_A

/-- CB 88 to CB 8F. -/
def extRow88 (z : Fin 8) : Instr :=
  match z with
  | 0 => .res1_B
  | 1 => .res1_C
  | 2 => .res1_D
  | 3 => .res1_E
  | 4 => .res1_H
  | 5 => .res1_L
  | 6 => .res1_MHL
  | 7 => .res1_A

/-- CB 90 to CB 97. -/
def extRow90 (z : Fin 8) : Instr :=
  match z with
  | 0 => .res2_B
  | 1 => .res2_C
  | 2 => .res2_D
  | 3 => .res2_E
  | 4 => .res2_H
  | 5 => .res2_L
  | 6 => .res2_MHL
  | 7 => .res2_A

/-- CB 98 to CB 9F. -/
def extRow98 (z : Fin 8) : Instr :=
  match z with
  | 0 => .res3_B
  | 1 => .res3_C
  | 2 => .res3_D
  | 3 => .res3_E
  | 4 => .res3_H
  | 5 => .res3_L
  | 6 => .res3_MHL
  | 7 => .res3_A

/-- CB A0 to CB A7. -/
def extRowA0 (z : Fin 8) : Instr :=
  match z with
  | 0 => .res4_B
  | 1 => .res4_C
  | 2 => .res4_D
  | 3 => .res4_E
  | 4 => .res4_H
  | 5 => .res4_L
  | 6 => .res4_MHL
  | 7 => .res4_A

/-- CB A8 to CB AF. -/
def extRowA8 (z : Fin 8) : Instr :=
  match z with
  | 0 => .res5_B
  | 1 => .res5_C
  | 2 => .res5_D
  | 3 => .res5_E
  | 4 => .res5_H
  | 5 => .res5_L
  | 6 => .res5_MHL
  | 7 => .res5_A

/-- CB B0 to CB B7. -/
def extRowB0 (z : Fin 8) : Instr :=
  match z with
  | 0 => .res6_B
  | 1 => .res6_C
  | 2 => .res6_D
  | 3 => .res6_E
  | 4 => .res6_H
  | 5 => .res6_L
  | 6 => .res6_MHL
  | 7 => .res6_A

/-- CB B8 to CB BF. -/
def extRowB8 (z : Fin 8) : Instr :=
  match z with
  | 0 => .res7_B
  | 1 => .res7_C
  | 2 => .res7_D
  | 3 => .res7_E
  | 4 => .res7_H
  | 5 => .res7_L
  | 6 => .res7_MHL
  | 7 => .res7_A

/-- CB C0 to CB C7. -/
def extRowC0 (z : Fin 8) : Instr :=
  match z with
  | 0 => .set0_B
  | 1 => .set0_C
  | 2 => .set0_D
  | 3 => .set0_E
  | 4 => .set0_H
  | 5 => .set0_L
  | 6 => .set0_MHL
  | 7 => .set0_A

/-- CB C8 to CB CF. -/
def extRowC8 (z : Fin 8) : Instr :=
  match z with
  | 0 => .set1_B
  | 1 => .set1_C
  | 2 => .set1_D
  | 3 => .set1_E
  | 4 => .set1_H
  | 5 => .set1_L
  | 6 => .set1_MHL
  | 7 => .set1_A

/-- CB D0 to CB D7. -/
def extRowD0 (z : Fin 8) : Instr :=
  match z with
  | 0 => .set2_B
  | 1 => .set2_C
  | 2 => .set2_D
  | 3 => .set2_E
  | 4 => .set2_H
  | 5 => .set2_L
  | 6 => .set2_MHL
  | 7 => .set2_A

/-- CB D8 to CB DF. -/
def extRowD8 (z : Fin 8) : Instr :=
  match z with
  | 0 => .set3_B
  | 1 => .set3_C
  | 2 => .set3_D
  | 3 => .set3_E
  | 4 => .set3_H
  | 5 => .set3_L
  | 6 => .set3_MHL
  | 7 => .set3_A

/-- CB E0 to CB E7. -/
def extRowE0 (z : Fin 8) : Instr :=
  match z with
  | 0 => .set4_B
  | 1 => .set4_C
  | 2 => .set4_D
  | 3 => .set4_E
  | 4 => .set4_H
  | 5 => .set4_L
  | 6 => .set4_MHL
  | 7 => .set4_A

/-- CB E8 to CB EF. -/
def extRowE8 (z : Fin 8) : Instr :=
  match z with
  | 0 => .set5_B
  | 1 => .set5_C
  | 2 => .set5_D
  | 3 => .set5_E
  | 4 => .set5_H
  | 5 => .set5_L
  | 6 => .set5_MHL
  | 7 => .set5_A

/-- CB F0 to CB F7. -/
def extRowF0 (z : Fin 8) : Instr :=
  match z with
  | 0 => .set6_B
  | 1 => .set6_C
  | 2 => .set6_D
  | 3 => .set6_E
  | 4 => .set6_H
  | 5 => .set6_L
  | 6 => .set6_MHL
  | 7 => .set6_A

/-- CB F8 to CB FF. -/
def extRowF8 (z : Fin 8) : Instr :=
  match z with
  | 0 => .set7_B
  | 1 => .set7_C
  | 2 => .set7_D
  | 3 => .set7_E
  | 4 => .set7_H
  | 5 => .set7_L
  | 6 => .set7_MHL
  | 7 => .set7_A

/-- CBTABLE (R110, R117): "all 256 values of `op2` are defined". -/
def extInstr (op2 : Byte) : Instr :=
  match fieldX op2, fieldY op2 with
  | 0, 0 => extRow00 (fieldZ op2)
  | 0, 1 => extRow08 (fieldZ op2)
  | 0, 2 => extRow10 (fieldZ op2)
  | 0, 3 => extRow18 (fieldZ op2)
  | 0, 4 => extRow20 (fieldZ op2)
  | 0, 5 => extRow28 (fieldZ op2)
  | 0, 6 => extRow30 (fieldZ op2)
  | 0, 7 => extRow38 (fieldZ op2)
  | 1, 0 => extRow40 (fieldZ op2)
  | 1, 1 => extRow48 (fieldZ op2)
  | 1, 2 => extRow50 (fieldZ op2)
  | 1, 3 => extRow58 (fieldZ op2)
  | 1, 4 => extRow60 (fieldZ op2)
  | 1, 5 => extRow68 (fieldZ op2)
  | 1, 6 => extRow70 (fieldZ op2)
  | 1, 7 => extRow78 (fieldZ op2)
  | 2, 0 => extRow80 (fieldZ op2)
  | 2, 1 => extRow88 (fieldZ op2)
  | 2, 2 => extRow90 (fieldZ op2)
  | 2, 3 => extRow98 (fieldZ op2)
  | 2, 4 => extRowA0 (fieldZ op2)
  | 2, 5 => extRowA8 (fieldZ op2)
  | 2, 6 => extRowB0 (fieldZ op2)
  | 2, 7 => extRowB8 (fieldZ op2)
  | 3, 0 => extRowC0 (fieldZ op2)
  | 3, 1 => extRowC8 (fieldZ op2)
  | 3, 2 => extRowD0 (fieldZ op2)
  | 3, 3 => extRowD8 (fieldZ op2)
  | 3, 4 => extRowE0 (fieldZ op2)
  | 3, 5 => extRowE8 (fieldZ op2)
  | 3, 6 => extRowF0 (fieldZ op2)
  | 3, 7 => extRowF8 (fieldZ op2)

/-- The instruction whose first bytes are b0, b1, b2 (R122): "look up byte 0; if the row is `PREFIX CB`, look up
`0xCB00 + byte 1` among the extended rows". Bytes beyond the instruction's length do not matter. -/
def decode3 (b0 b1 b2 : Byte) : Instr :=
  if b0 = 0xCB then extInstr b1 else baseInstr b0 b1 b2

/-- Why a list of bytes holds no instruction. Every byte 0 has a row (the holes of R118 too, whose meaning is the
Unimplemented signal), so the only rejection is a list that ends inside an instruction. Safe: a fetch never ends. -/
inductive DecodeError
  /-- there is no byte 0 -/
  | noByte
  /-- the instruction with this byte 0 is longer than the list -/
  | truncated (b0 : Byte)
deriving DecidableEq, Repr

/-- Decode the instruction at the head of a list of bytes, and give the bytes after it (R100, R101, R122). -/
def decode : List Byte → Except DecodeError (Instr × List Byte)
  | [] => .error .noByte
  | b0 :: rest =>
    if opLength b0 = 1 then .ok (decode3 b0 0 0, rest)
    else match rest with
      | [] => .error (.truncated b0)
      | b1 :: rest1 =>
        if opLength b0 = 2 then .ok (decode3 b0 b1 0, rest1)
        else match rest1 with
          | [] => .error (.truncated b0)
          | b2 :: rest2 => .ok (decode3 b0 b1 b2, rest2)

/-! ### The same maps by fields (R102 to R107, R111 to R117) -/

/-- Table R8 (R103). -/
def r8 : Fin 8 → Loc8
  | 0 => .reg .b | 1 => .reg .c | 2 => .reg .d | 3 => .reg .e
  | 4 => .reg .h | 5 => .reg .l | 6 => .mHL | 7 => .reg .a

/-- Table R16 (R104). -/
def r16 : Fin 4 → Reg16
  | 0 => .bc | 1 => .de | 2 => .hl | 3 => .sp

/-- Table R16STK (R105). -/
def r16stk : Fin 4 → RegStk
  | 0 => .bc | 1 => .de | 2 => .hl | 3 => .af

/-- Table R16MEM (R106). -/
def r16mem : Fin 4 → MemPtr
  | 0 => .bc | 1 => .de | 2 => .hlInc | 3 => .hlDec

/-- Table CC at `y` or `y - 4` (R107): the two low bits of y. -/
def ccOf (y : Fin 8) : Cond :=
  match y with
  | 0 => .nz | 1 => .z | 2 => .nc | 3 => .c | 4 => .nz | 5 => .z | 6 => .nc | 7 => .c

/-- Table ALU (R111). -/
def aluTable : Fin 8 → AluOp
  | 0 => .add | 1 => .adc | 2 => .sub | 3 => .sbc | 4 => .and | 5 => .xor | 6 => .or | 7 => .cp

/-- Table ROT (R112). -/
def rotTable : Fin 8 → RotOp
  | 0 => .rlc | 1 => .rrc | 2 => .rl | 3 => .rr | 4 => .sla | 5 => .sra | 6 => .swap | 7 => .srl

/-- The four moves of R114, by whether each side is a register half or `(HL)`; `LD (HL),(HL)` is HALT. -/
def moveForm : Loc8 → Loc8 → Form
  | .reg dst, .reg src => .ldRR dst src
  | .reg dst, .mHL => .ldRM dst
  | .mHL, .reg src => .ldMR src
  | .mHL, .mHL => .halt

/-- `LD R8[y],d8` (R113, z = 6). -/
def moveImmForm : Loc8 → Byte → Form
  | .reg dst, n => .ldRN dst n
  | .mHL, n => .ldMN n

/-- Quadrant x = 0 (R113). -/
def quadrant0 (op n : Byte) (nn : Word) : Form :=
  match fieldZ op with
  | 0 => match fieldY op with
    | 0 => .nop | 1 => .ldAbsSP nn | 2 => .stop n | 3 => .jr n
    | 4 | 5 | 6 | 7 => .jrCc (ccOf (fieldY op)) n
  | 1 => match fieldQ op with
    | 0 => .ldPair (r16 (fieldP op)) nn
    | 1 => .addHL (r16 (fieldP op))
  | 2 => match fieldQ op with
    | 0 => .ldATo (r16mem (fieldP op))
    | 1 => .ldAFrom (r16mem (fieldP op))
  | 3 => match fieldQ op with
    | 0 => .incPair (r16 (fieldP op))
    | 1 => .decPair (r16 (fieldP op))
  | 4 => .inc8 (r8 (fieldY op))
  | 5 => .dec8 (r8 (fieldY op))
  | 6 => moveImmForm (r8 (fieldY op)) n
  | 7 => match fieldY op with
    | 0 => .rlca | 1 => .rrca | 2 => .rla | 3 => .rra | 4 => .daa | 5 => .cpl | 6 => .scf | 7 => .ccf

/-- Quadrant x = 3 (R116, R123). -/
def quadrant3 (op n : Byte) (nn : Word) : Form :=
  match fieldZ op with
  | 0 => match fieldY op with
    | 0 | 1 | 2 | 3 => .retCc (ccOf (fieldY op))
    | 4 => .ldhTo n | 5 => .addSP n | 6 => .ldhFrom n | 7 => .ldHLSP n
  | 1 => match fieldQ op with
    | 0 => .pop (r16stk (fieldP op))
    | 1 => match fieldP op with
      | 0 => .ret | 1 => .reti | 2 => .jpHL | 3 => .ldSPHL
  | 2 => match fieldY op with
    | 0 | 1 | 2 | 3 => .jpCc (ccOf (fieldY op)) nn
    | 4 => .ldCTo | 5 => .ldAbsTo nn | 6 => .ldCFrom | 7 => .ldAbsFrom nn
  | 3 => match fieldY op with
    | 0 => .jp nn | 1 => .prefixCB | 2 | 3 | 4 | 5 => .illegal op | 6 => .di | 7 => .ei
  | 4 => match fieldY op with
    | 0 | 1 | 2 | 3 => .callCc (ccOf (fieldY op)) nn
    | 4 | 5 | 6 | 7 => .illegal op
  | 5 => match fieldQ op with
    | 0 => .push (r16stk (fieldP op))
    | 1 => match fieldP op with
      | 0 => .call nn
      | 1 | 2 | 3 => .illegal op
  | 6 => .alu (aluTable (fieldY op)) (.imm n)
  | 7 => .rst (fieldY op)

/-- The extended table by fields (R117). -/
def extForm (op2 : Byte) : Form :=
  if fieldX op2 = 0 then .rot (rotTable (fieldY op2)) (r8 (fieldZ op2))
  else if fieldX op2 = 1 then .bit (fieldY op2) (r8 (fieldZ op2))
  else if fieldX op2 = 2 then .res (fieldY op2) (r8 (fieldZ op2))
  else .set (fieldY op2) (r8 (fieldZ op2))

/-- The form that the fields of the bytes select (R113 to R117): the maps in prose, read without the tables. -/
def fieldForm (b0 b1 b2 : Byte) : Form :=
  if b0 = 0xCB then extForm b1
  else if fieldX b0 = 0 then quadrant0 b0 b1 (word16 b2 b1)
  else if fieldX b0 = 1 then moveForm (r8 (fieldY b0)) (r8 (fieldZ b0))
  else if fieldX b0 = 2 then .alu (aluTable (fieldY b0)) (.loc (r8 (fieldZ b0)))
  else quadrant3 b0 b1 (word16 b2 b1)

/-! ### The encoder -/

/-- The bytes of an instruction, byte 0 first (R100, section 6): an immediate word low byte first (R109). The prefix
row has its byte 0 alone: it is not an instruction by itself (R371). -/
def Instr.encode : Instr → List Byte
  | .nop => [0x00]
  | .ldBC_d16 d16 => [0x01, loByte d16, hiByte d16]
  | .ldMBC_A => [0x02]
  | .incBC => [0x03]
  | .incB => [0x04]
  | .decB => [0x05]
  | .ldB_d8 d8 => [0x06, d8]
  | .rlca => [0x07]
  | .ldMa16_SP a16 => [0x08, loByte a16, hiByte a16]
  | .addHL_BC => [0x09]
  | .ldA_MBC => [0x0A]
  | .decBC => [0x0B]
  | .incC => [0x0C]
  | .decC => [0x0D]
  | .ldC_d8 d8 => [0x0E, d8]
  | .rrca => [0x0F]
  | .stop pad => [0x10, pad]
  | .ldDE_d16 d16 => [0x11, loByte d16, hiByte d16]
  | .ldMDE_A => [0x12]
  | .incDE => [0x13]
  | .incD => [0x14]
  | .decD => [0x15]
  | .ldD_d8 d8 => [0x16, d8]
  | .rla => [0x17]
  | .jr_e8 e8 => [0x18, e8]
  | .addHL_DE => [0x19]
  | .ldA_MDE => [0x1A]
  | .decDE => [0x1B]
  | .incE => [0x1C]
  | .decE => [0x1D]
  | .ldE_d8 d8 => [0x1E, d8]
  | .rra => [0x1F]
  | .jrNZ_e8 e8 => [0x20, e8]
  | .ldHL_d16 d16 => [0x21, loByte d16, hiByte d16]
  | .ldMHLinc_A => [0x22]
  | .incHL => [0x23]
  | .incH => [0x24]
  | .decH => [0x25]
  | .ldH_d8 d8 => [0x26, d8]
  | .daa => [0x27]
  | .jrZ_e8 e8 => [0x28, e8]
  | .addHL_HL => [0x29]
  | .ldA_MHLinc => [0x2A]
  | .decHL => [0x2B]
  | .incL => [0x2C]
  | .decL => [0x2D]
  | .ldL_d8 d8 => [0x2E, d8]
  | .cpl => [0x2F]
  | .jrNC_e8 e8 => [0x30, e8]
  | .ldSP_d16 d16 => [0x31, loByte d16, hiByte d16]
  | .ldMHLdec_A => [0x32]
  | .incSP => [0x33]
  | .incMHL => [0x34]
  | .decMHL => [0x35]
  | .ldMHL_d8 d8 => [0x36, d8]
  | .scf => [0x37]
  | .jrC_e8 e8 => [0x38, e8]
  | .addHL_SP => [0x39]
  | .ldA_MHLdec => [0x3A]
  | .decSP => [0x3B]
  | .incA => [0x3C]
  | .decA => [0x3D]
  | .ldA_d8 d8 => [0x3E, d8]
  | .ccf => [0x3F]
  | .ldB_B => [0x40]
  | .ldB_C => [0x41]
  | .ldB_D => [0x42]
  | .ldB_E => [0x43]
  | .ldB_H => [0x44]
  | .ldB_L => [0x45]
  | .ldB_MHL => [0x46]
  | .ldB_A => [0x47]
  | .ldC_B => [0x48]
  | .ldC_C => [0x49]
  | .ldC_D => [0x4A]
  | .ldC_E => [0x4B]
  | .ldC_H => [0x4C]
  | .ldC_L => [0x4D]
  | .ldC_MHL => [0x4E]
  | .ldC_A => [0x4F]
  | .ldD_B => [0x50]
  | .ldD_C => [0x51]
  | .ldD_D => [0x52]
  | .ldD_E => [0x53]
  | .ldD_H => [0x54]
  | .ldD_L => [0x55]
  | .ldD_MHL => [0x56]
  | .ldD_A => [0x57]
  | .ldE_B => [0x58]
  | .ldE_C => [0x59]
  | .ldE_D => [0x5A]
  | .ldE_E => [0x5B]
  | .ldE_H => [0x5C]
  | .ldE_L => [0x5D]
  | .ldE_MHL => [0x5E]
  | .ldE_A => [0x5F]
  | .ldH_B => [0x60]
  | .ldH_C => [0x61]
  | .ldH_D => [0x62]
  | .ldH_E => [0x63]
  | .ldH_H => [0x64]
  | .ldH_L => [0x65]
  | .ldH_MHL => [0x66]
  | .ldH_A => [0x67]
  | .ldL_B => [0x68]
  | .ldL_C => [0x69]
  | .ldL_D => [0x6A]
  | .ldL_E => [0x6B]
  | .ldL_H => [0x6C]
  | .ldL_L => [0x6D]
  | .ldL_MHL => [0x6E]
  | .ldL_A => [0x6F]
  | .ldMHL_B => [0x70]
  | .ldMHL_C => [0x71]
  | .ldMHL_D => [0x72]
  | .ldMHL_E => [0x73]
  | .ldMHL_H => [0x74]
  | .ldMHL_L => [0x75]
  | .halt => [0x76]
  | .ldMHL_A => [0x77]
  | .ldA_B => [0x78]
  | .ldA_C => [0x79]
  | .ldA_D => [0x7A]
  | .ldA_E => [0x7B]
  | .ldA_H => [0x7C]
  | .ldA_L => [0x7D]
  | .ldA_MHL => [0x7E]
  | .ldA_A => [0x7F]
  | .addA_B => [0x80]
  | .addA_C => [0x81]
  | .addA_D => [0x82]
  | .addA_E => [0x83]
  | .addA_H => [0x84]
  | .addA_L => [0x85]
  | .addA_MHL => [0x86]
  | .addA_A => [0x87]
  | .adcA_B => [0x88]
  | .adcA_C => [0x89]
  | .adcA_D => [0x8A]
  | .adcA_E => [0x8B]
  | .adcA_H => [0x8C]
  | .adcA_L => [0x8D]
  | .adcA_MHL => [0x8E]
  | .adcA_A => [0x8F]
  | .subB => [0x90]
  | .subC => [0x91]
  | .subD => [0x92]
  | .subE => [0x93]
  | .subH => [0x94]
  | .subL => [0x95]
  | .subMHL => [0x96]
  | .subA => [0x97]
  | .sbcA_B => [0x98]
  | .sbcA_C => [0x99]
  | .sbcA_D => [0x9A]
  | .sbcA_E => [0x9B]
  | .sbcA_H => [0x9C]
  | .sbcA_L => [0x9D]
  | .sbcA_MHL => [0x9E]
  | .sbcA_A => [0x9F]
  | .andB => [0xA0]
  | .andC => [0xA1]
  | .andD => [0xA2]
  | .andE => [0xA3]
  | .andH => [0xA4]
  | .andL => [0xA5]
  | .andMHL => [0xA6]
  | .andA => [0xA7]
  | .xorB => [0xA8]
  | .xorC => [0xA9]
  | .xorD => [0xAA]
  | .xorE => [0xAB]
  | .xorH => [0xAC]
  | .xorL => [0xAD]
  | .xorMHL => [0xAE]
  | .xorA => [0xAF]
  | .orB => [0xB0]
  | .orC => [0xB1]
  | .orD => [0xB2]
  | .orE => [0xB3]
  | .orH => [0xB4]
  | .orL => [0xB5]
  | .orMHL => [0xB6]
  | .orA => [0xB7]
  | .cpB => [0xB8]
  | .cpC => [0xB9]
  | .cpD => [0xBA]
  | .cpE => [0xBB]
  | .cpH => [0xBC]
  | .cpL => [0xBD]
  | .cpMHL => [0xBE]
  | .cpA => [0xBF]
  | .retNZ => [0xC0]
  | .popBC => [0xC1]
  | .jpNZ_a16 a16 => [0xC2, loByte a16, hiByte a16]
  | .jp_a16 a16 => [0xC3, loByte a16, hiByte a16]
  | .callNZ_a16 a16 => [0xC4, loByte a16, hiByte a16]
  | .pushBC => [0xC5]
  | .addA_d8 d8 => [0xC6, d8]
  | .rst00 => [0xC7]
  | .retZ => [0xC8]
  | .ret => [0xC9]
  | .jpZ_a16 a16 => [0xCA, loByte a16, hiByte a16]
  | .prefixCB => [0xCB]
  | .callZ_a16 a16 => [0xCC, loByte a16, hiByte a16]
  | .call_a16 a16 => [0xCD, loByte a16, hiByte a16]
  | .adcA_d8 d8 => [0xCE, d8]
  | .rst08 => [0xCF]
  | .retNC => [0xD0]
  | .popDE => [0xD1]
  | .jpNC_a16 a16 => [0xD2, loByte a16, hiByte a16]
  | .illegalD3 => [0xD3]
  | .callNC_a16 a16 => [0xD4, loByte a16, hiByte a16]
  | .pushDE => [0xD5]
  | .sub_d8 d8 => [0xD6, d8]
  | .rst10 => [0xD7]
  | .retC => [0xD8]
  | .reti => [0xD9]
  | .jpC_a16 a16 => [0xDA, loByte a16, hiByte a16]
  | .illegalDB => [0xDB]
  | .callC_a16 a16 => [0xDC, loByte a16, hiByte a16]
  | .illegalDD => [0xDD]
  | .sbcA_d8 d8 => [0xDE, d8]
  | .rst18 => [0xDF]
  | .ldhMa8_A a8 => [0xE0, a8]
  | .popHL => [0xE1]
  | .ldMC_A => [0xE2]
  | .illegalE3 => [0xE3]
  | .illegalE4 => [0xE4]
  | .pushHL => [0xE5]
  | .and_d8 d8 => [0xE6, d8]
  | .rst20 => [0xE7]
  | .addSP_e8 e8 => [0xE8, e8]
  | .jpHL => [0xE9]
  | .ldMa16_A a16 => [0xEA, loByte a16, hiByte a16]
  | .illegalEB => [0xEB]
  | .illegalEC => [0xEC]
  | .illegalED => [0xED]
  | .xor_d8 d8 => [0xEE, d8]
  | .rst28 => [0xEF]
  | .ldhA_Ma8 a8 => [0xF0, a8]
  | .popAF => [0xF1]
  | .ldA_MC => [0xF2]
  | .di => [0xF3]
  | .illegalF4 => [0xF4]
  | .pushAF => [0xF5]
  | .or_d8 d8 => [0xF6, d8]
  | .rst30 => [0xF7]
  | .ldHL_SPe8 e8 => [0xF8, e8]
  | .ldSP_HL => [0xF9]
  | .ldA_Ma16 a16 => [0xFA, loByte a16, hiByte a16]
  | .ei => [0xFB]
  | .illegalFC => [0xFC]
  | .illegalFD => [0xFD]
  | .cp_d8 d8 => [0xFE, d8]
  | .rst38 => [0xFF]
  | .rlc_B => [0xCB, 0x00]
  | .rlc_C => [0xCB, 0x01]
  | .rlc_D => [0xCB, 0x02]
  | .rlc_E => [0xCB, 0x03]
  | .rlc_H => [0xCB, 0x04]
  | .rlc_L => [0xCB, 0x05]
  | .rlc_MHL => [0xCB, 0x06]
  | .rlc_A => [0xCB, 0x07]
  | .rrc_B => [0xCB, 0x08]
  | .rrc_C => [0xCB, 0x09]
  | .rrc_D => [0xCB, 0x0A]
  | .rrc_E => [0xCB, 0x0B]
  | .rrc_H => [0xCB, 0x0C]
  | .rrc_L => [0xCB, 0x0D]
  | .rrc_MHL => [0xCB, 0x0E]
  | .rrc_A => [0xCB, 0x0F]
  | .rl_B => [0xCB, 0x10]
  | .rl_C => [0xCB, 0x11]
  | .rl_D => [0xCB, 0x12]
  | .rl_E => [0xCB, 0x13]
  | .rl_H => [0xCB, 0x14]
  | .rl_L => [0xCB, 0x15]
  | .rl_MHL => [0xCB, 0x16]
  | .rl_A => [0xCB, 0x17]
  | .rr_B => [0xCB, 0x18]
  | .rr_C => [0xCB, 0x19]
  | .rr_D => [0xCB, 0x1A]
  | .rr_E => [0xCB, 0x1B]
  | .rr_H => [0xCB, 0x1C]
  | .rr_L => [0xCB, 0x1D]
  | .rr_MHL => [0xCB, 0x1E]
  | .rr_A => [0xCB, 0x1F]
  | .slaB => [0xCB, 0x20]
  | .slaC => [0xCB, 0x21]
  | .slaD => [0xCB, 0x22]
  | .slaE => [0xCB, 0x23]
  | .slaH => [0xCB, 0x24]
  | .slaL => [0xCB, 0x25]
  | .slaMHL => [0xCB, 0x26]
  | .slaA => [0xCB, 0x27]
  | .sraB => [0xCB, 0x28]
  | .sraC => [0xCB, 0x29]
  | .sraD => [0xCB, 0x2A]
  | .sraE => [0xCB, 0x2B]
  | .sraH => [0xCB, 0x2C]
  | .sraL => [0xCB, 0x2D]
  | .sraMHL => [0xCB, 0x2E]
  | .sraA => [0xCB, 0x2F]
  | .swapB => [0xCB, 0x30]
  | .swapC => [0xCB, 0x31]
  | .swapD => [0xCB, 0x32]
  | .swapE => [0xCB, 0x33]
  | .swapH => [0xCB, 0x34]
  | .swapL => [0xCB, 0x35]
  | .swapMHL => [0xCB, 0x36]
  | .swapA => [0xCB, 0x37]
  | .srlB => [0xCB, 0x38]
  | .srlC => [0xCB, 0x39]
  | .srlD => [0xCB, 0x3A]
  | .srlE => [0xCB, 0x3B]
  | .srlH => [0xCB, 0x3C]
  | .srlL => [0xCB, 0x3D]
  | .srlMHL => [0xCB, 0x3E]
  | .srlA => [0xCB, 0x3F]
  | .bit0_B => [0xCB, 0x40]
  | .bit0_C => [0xCB, 0x41]
  | .bit0_D => [0xCB, 0x42]
  | .bit0_E => [0xCB, 0x43]
  | .bit0_H => [0xCB, 0x44]
  | .bit0_L => [0xCB, 0x45]
  | .bit0_MHL => [0xCB, 0x46]
  | .bit0_A => [0xCB, 0x47]
  | .bit1_B => [0xCB, 0x48]
  | .bit1_C => [0xCB, 0x49]
  | .bit1_D => [0xCB, 0x4A]
  | .bit1_E => [0xCB, 0x4B]
  | .bit1_H => [0xCB, 0x4C]
  | .bit1_L => [0xCB, 0x4D]
  | .bit1_MHL => [0xCB, 0x4E]
  | .bit1_A => [0xCB, 0x4F]
  | .bit2_B => [0xCB, 0x50]
  | .bit2_C => [0xCB, 0x51]
  | .bit2_D => [0xCB, 0x52]
  | .bit2_E => [0xCB, 0x53]
  | .bit2_H => [0xCB, 0x54]
  | .bit2_L => [0xCB, 0x55]
  | .bit2_MHL => [0xCB, 0x56]
  | .bit2_A => [0xCB, 0x57]
  | .bit3_B => [0xCB, 0x58]
  | .bit3_C => [0xCB, 0x59]
  | .bit3_D => [0xCB, 0x5A]
  | .bit3_E => [0xCB, 0x5B]
  | .bit3_H => [0xCB, 0x5C]
  | .bit3_L => [0xCB, 0x5D]
  | .bit3_MHL => [0xCB, 0x5E]
  | .bit3_A => [0xCB, 0x5F]
  | .bit4_B => [0xCB, 0x60]
  | .bit4_C => [0xCB, 0x61]
  | .bit4_D => [0xCB, 0x62]
  | .bit4_E => [0xCB, 0x63]
  | .bit4_H => [0xCB, 0x64]
  | .bit4_L => [0xCB, 0x65]
  | .bit4_MHL => [0xCB, 0x66]
  | .bit4_A => [0xCB, 0x67]
  | .bit5_B => [0xCB, 0x68]
  | .bit5_C => [0xCB, 0x69]
  | .bit5_D => [0xCB, 0x6A]
  | .bit5_E => [0xCB, 0x6B]
  | .bit5_H => [0xCB, 0x6C]
  | .bit5_L => [0xCB, 0x6D]
  | .bit5_MHL => [0xCB, 0x6E]
  | .bit5_A => [0xCB, 0x6F]
  | .bit6_B => [0xCB, 0x70]
  | .bit6_C => [0xCB, 0x71]
  | .bit6_D => [0xCB, 0x72]
  | .bit6_E => [0xCB, 0x73]
  | .bit6_H => [0xCB, 0x74]
  | .bit6_L => [0xCB, 0x75]
  | .bit6_MHL => [0xCB, 0x76]
  | .bit6_A => [0xCB, 0x77]
  | .bit7_B => [0xCB, 0x78]
  | .bit7_C => [0xCB, 0x79]
  | .bit7_D => [0xCB, 0x7A]
  | .bit7_E => [0xCB, 0x7B]
  | .bit7_H => [0xCB, 0x7C]
  | .bit7_L => [0xCB, 0x7D]
  | .bit7_MHL => [0xCB, 0x7E]
  | .bit7_A => [0xCB, 0x7F]
  | .res0_B => [0xCB, 0x80]
  | .res0_C => [0xCB, 0x81]
  | .res0_D => [0xCB, 0x82]
  | .res0_E => [0xCB, 0x83]
  | .res0_H => [0xCB, 0x84]
  | .res0_L => [0xCB, 0x85]
  | .res0_MHL => [0xCB, 0x86]
  | .res0_A => [0xCB, 0x87]
  | .res1_B => [0xCB, 0x88]
  | .res1_C => [0xCB, 0x89]
  | .res1_D => [0xCB, 0x8A]
  | .res1_E => [0xCB, 0x8B]
  | .res1_H => [0xCB, 0x8C]
  | .res1_L => [0xCB, 0x8D]
  | .res1_MHL => [0xCB, 0x8E]
  | .res1_A => [0xCB, 0x8F]
  | .res2_B => [0xCB, 0x90]
  | .res2_C => [0xCB, 0x91]
  | .res2_D => [0xCB, 0x92]
  | .res2_E => [0xCB, 0x93]
  | .res2_H => [0xCB, 0x94]
  | .res2_L => [0xCB, 0x95]
  | .res2_MHL => [0xCB, 0x96]
  | .res2_A => [0xCB, 0x97]
  | .res3_B => [0xCB, 0x98]
  | .res3_C => [0xCB, 0x99]
  | .res3_D => [0xCB, 0x9A]
  | .res3_E => [0xCB, 0x9B]
  | .res3_H => [0xCB, 0x9C]
  | .res3_L => [0xCB, 0x9D]
  | .res3_MHL => [0xCB, 0x9E]
  | .res3_A => [0xCB, 0x9F]
  | .res4_B => [0xCB, 0xA0]
  | .res4_C => [0xCB, 0xA1]
  | .res4_D => [0xCB, 0xA2]
  | .res4_E => [0xCB, 0xA3]
  | .res4_H => [0xCB, 0xA4]
  | .res4_L => [0xCB, 0xA5]
  | .res4_MHL => [0xCB, 0xA6]
  | .res4_A => [0xCB, 0xA7]
  | .res5_B => [0xCB, 0xA8]
  | .res5_C => [0xCB, 0xA9]
  | .res5_D => [0xCB, 0xAA]
  | .res5_E => [0xCB, 0xAB]
  | .res5_H => [0xCB, 0xAC]
  | .res5_L => [0xCB, 0xAD]
  | .res5_MHL => [0xCB, 0xAE]
  | .res5_A => [0xCB, 0xAF]
  | .res6_B => [0xCB, 0xB0]
  | .res6_C => [0xCB, 0xB1]
  | .res6_D => [0xCB, 0xB2]
  | .res6_E => [0xCB, 0xB3]
  | .res6_H => [0xCB, 0xB4]
  | .res6_L => [0xCB, 0xB5]
  | .res6_MHL => [0xCB, 0xB6]
  | .res6_A => [0xCB, 0xB7]
  | .res7_B => [0xCB, 0xB8]
  | .res7_C => [0xCB, 0xB9]
  | .res7_D => [0xCB, 0xBA]
  | .res7_E => [0xCB, 0xBB]
  | .res7_H => [0xCB, 0xBC]
  | .res7_L => [0xCB, 0xBD]
  | .res7_MHL => [0xCB, 0xBE]
  | .res7_A => [0xCB, 0xBF]
  | .set0_B => [0xCB, 0xC0]
  | .set0_C => [0xCB, 0xC1]
  | .set0_D => [0xCB, 0xC2]
  | .set0_E => [0xCB, 0xC3]
  | .set0_H => [0xCB, 0xC4]
  | .set0_L => [0xCB, 0xC5]
  | .set0_MHL => [0xCB, 0xC6]
  | .set0_A => [0xCB, 0xC7]
  | .set1_B => [0xCB, 0xC8]
  | .set1_C => [0xCB, 0xC9]
  | .set1_D => [0xCB, 0xCA]
  | .set1_E => [0xCB, 0xCB]
  | .set1_H => [0xCB, 0xCC]
  | .set1_L => [0xCB, 0xCD]
  | .set1_MHL => [0xCB, 0xCE]
  | .set1_A => [0xCB, 0xCF]
  | .set2_B => [0xCB, 0xD0]
  | .set2_C => [0xCB, 0xD1]
  | .set2_D => [0xCB, 0xD2]
  | .set2_E => [0xCB, 0xD3]
  | .set2_H => [0xCB, 0xD4]
  | .set2_L => [0xCB, 0xD5]
  | .set2_MHL => [0xCB, 0xD6]
  | .set2_A => [0xCB, 0xD7]
  | .set3_B => [0xCB, 0xD8]
  | .set3_C => [0xCB, 0xD9]
  | .set3_D => [0xCB, 0xDA]
  | .set3_E => [0xCB, 0xDB]
  | .set3_H => [0xCB, 0xDC]
  | .set3_L => [0xCB, 0xDD]
  | .set3_MHL => [0xCB, 0xDE]
  | .set3_A => [0xCB, 0xDF]
  | .set4_B => [0xCB, 0xE0]
  | .set4_C => [0xCB, 0xE1]
  | .set4_D => [0xCB, 0xE2]
  | .set4_E => [0xCB, 0xE3]
  | .set4_H => [0xCB, 0xE4]
  | .set4_L => [0xCB, 0xE5]
  | .set4_MHL => [0xCB, 0xE6]
  | .set4_A => [0xCB, 0xE7]
  | .set5_B => [0xCB, 0xE8]
  | .set5_C => [0xCB, 0xE9]
  | .set5_D => [0xCB, 0xEA]
  | .set5_E => [0xCB, 0xEB]
  | .set5_H => [0xCB, 0xEC]
  | .set5_L => [0xCB, 0xED]
  | .set5_MHL => [0xCB, 0xEE]
  | .set5_A => [0xCB, 0xEF]
  | .set6_B => [0xCB, 0xF0]
  | .set6_C => [0xCB, 0xF1]
  | .set6_D => [0xCB, 0xF2]
  | .set6_E => [0xCB, 0xF3]
  | .set6_H => [0xCB, 0xF4]
  | .set6_L => [0xCB, 0xF5]
  | .set6_MHL => [0xCB, 0xF6]
  | .set6_A => [0xCB, 0xF7]
  | .set7_B => [0xCB, 0xF8]
  | .set7_C => [0xCB, 0xF9]
  | .set7_D => [0xCB, 0xFA]
  | .set7_E => [0xCB, 0xFB]
  | .set7_H => [0xCB, 0xFC]
  | .set7_L => [0xCB, 0xFD]
  | .set7_MHL => [0xCB, 0xFE]
  | .set7_A => [0xCB, 0xFF]

/-! ### The host's numbering of a table word -/

/-- The first three bytes of the instruction that a row of `nbits` bits with value `w` starts. An extended row
(nbits = 16, match = 0xCB00 + op2) is numbered by the table as `byte0 ## byte1` (R122); every other word has byte 0
in its low eight bits (log entry 7). -/
def tableBytes (nbits w : Nat) : Byte × Byte × Byte :=
  let v := w % 2 ^ nbits
  if nbits = 16 ∧ v / 256 = 0xCB then (0xCB, BitVec.ofNat 8 v, 0)
  else (BitVec.ofNat 8 v, BitVec.ofNat 8 (v / 256), BitVec.ofNat 8 (v / 65536))

/-- What the decoder reads from a table word, every bit above `nbits` zero. -/
def decodeTableWord (nbits w : Nat) : Option Instr :=
  match decode [(tableBytes nbits w).1, (tableBytes nbits w).2.1, (tableBytes nbits w).2.2] with
  | .ok (i, _) => some i
  | .error _ => none

end Sys2Proof
end

