-- ==== Sys2Proof/Config.lean ====
section
/-! DEFINITION. What one launch of JBCORE fixes: the parameters of 00_scope.md R7 and the reset values of
10_state.md R38. Values marked DESIGN CHOICE are parameters the spec leaves OPEN (D7, D9, D11); the host
operation RESET of Machine/HostOps.lean takes all of them as arguments, and the ones here are only those
`State.reset` uses. -/

namespace Sys2Proof.Config

/-- Size of a ROM bank in bytes (R7, R34). -/
abbrev romBankSize : Nat := 0x4000

/-- Size of an external-RAM bank in bytes (R7, R35). -/
abbrev ramBankSize : Nat := 0x2000

/-- ASIZE: the number of cells of the logical address space, and of GM (R7, R36). -/
abbrev addressSpaceSize : Nat := 0x10000

/-- RESET_PC (R7): "PC initialized to the ROM entry point (0x100)". -/
def resetPC : Word := 0x0100

/-- RESET_SP (R7), fixed by decision D8. -/
def resetSP : Word := 0xFFFE

/-- RESET_AF, RESET_BC, RESET_DE, RESET_HL: OPEN in the spec (D9). DESIGN CHOICE (unsafe, log entry 1): zero,
the start state of 95_test_vectors.md section 1. -/
def resetAF : Word := 0x0000
@[inherit_doc resetAF] def resetBC : Word := 0x0000
@[inherit_doc resetAF] def resetDE : Word := 0x0000
@[inherit_doc resetAF] def resetHL : Word := 0x0000

/-- RESET_ROMB and RESET_RAMB (R7, decision D6). -/
def resetRomb : Nat := 1
@[inherit_doc resetRomb] def resetRamb : Nat := 0

/-- ROM_BANKS: OPEN, at least 2 (D7). DESIGN CHOICE (unsafe, log entry 2): 2, as in 95_test_vectors.md section 1. -/
def romBanks : Nat := 2

/-- RAM_BANKS: OPEN, at least 1 (D7). DESIGN CHOICE (unsafe, log entry 2): 1, as in 95_test_vectors.md section 1. -/
def ramBanks : Nat := 1

/-- What a cell of CART, XRAM or GM reads as while the state lists no byte for it. The spec leaves CART,
GM_INIT, XRAM_INIT and IO_DEFAULTS OPEN (D11). DESIGN CHOICE (unsafe, log entry 3): 0x00. -/
def unlistedByte : Byte := 0x00

/-- HALT_IDLE_CYCLES: the cycles an Idle step reports (R7, R362, decision D12). -/
def haltIdleCycles : Nat := 4

end Sys2Proof.Config
end

