-- ==== Sys2Proof/Machine/State.lean ====
section
/-! DEFINITION. The state of JBCORE (10_state.md R20 to R38, R40), why a step can stop, and the state after RESET. -/

namespace Sys2Proof.Machine

/-- One storage array (CART, XRAM or GM): the bytes it lists by physical index. An index it does not list reads as
`Config.unlistedByte`; `Memory.wf` (Machine/Ops.lean) is its canonical form. -/
abbrev Memory := List Host.Cell

/-- The complete state: the engine's (R20 to R33) and the router's (R30, R31, R34 to R36). "Nothing else is state"
(R37). -/
structure State where
  /-- A, the accumulator: high half of AF (R20, R21) -/
  a : Byte
  /-- F: Z, N, H, C in bits 7..4, bits 3..0 always 0 (R24, R25); the flags have no other storage (R26) -/
  f : Byte
  b : Byte
  c : Byte
  d : Byte
  e : Byte
  h : Byte
  l : Byte
  /-- PC (R32) -/
  pc : Word
  /-- SP, the address of the most recently pushed byte (R33) -/
  sp : Word
  /-- IME (R28) -/
  ime : Bool
  /-- HALTED (R29) -/
  halted : Bool
  /-- ROMB, below `romBanks` (R30) -/
  romb : Nat
  /-- RAMB, below `ramBanks` (R31) -/
  ramb : Nat
  /-- ROM_BANKS, fixed by RESET (R7, R34) -/
  romBanks : Nat
  /-- RAM_BANKS, fixed by RESET (R7, R35) -/
  ramBanks : Nat
  /-- CART, the cartridge image by index (R34) -/
  cart : Memory
  /-- XRAM, the external RAM by index (R35) -/
  xram : Memory
  /-- GM, by logical address (R36) -/
  gm : Memory
deriving DecidableEq, Repr

/-- Why a step stops. -/
inductive Fault
  /-- The Unimplemented signal (R400): the step fetched an opcode that selects no instruction (the eleven holes of
  R370, or STOP with a pad byte other than 0x00, R363). It carries the first opcode byte and pc0, "the whole record";
  the state is as it was before the step (R402) and stays in the host's hands. Raised by `raiseUnimplemented`.
  Safe: the spec's own treatment is a fault (93_implementation_defined.md U1, U2; log entry 5). -/
  | unimplemented (opcode : Byte) (pc : Word)
deriving DecidableEq, Repr

/-- Why an instruction has no meaning here. -/
inductive Refusal
  /-- an arm of `exec` that has no meaning yet; no arm answers so. Safe: it stops. -/
  | notModelled (mnemonic : String)
deriving DecidableEq, Repr

/-- What a step answers. -/
abbrev Result := Host.Outcome State Fault Refusal

/-- The state after RESET (R38, R440) with the parameters of Config.lean: PC at the entry point, SP at 0xFFFE,
IME and HALTED 0, ROMB 1, RAMB 0; the OPEN registers and memories at the values log entries 1 to 3 name. -/
def State.reset : State where
  a := BitVec.ofNat 8 (Config.resetAF.toNat / 256)
  f := BitVec.ofNat 8 Config.resetAF.toNat &&& 0xF0
  b := BitVec.ofNat 8 (Config.resetBC.toNat / 256)
  c := BitVec.ofNat 8 Config.resetBC.toNat
  d := BitVec.ofNat 8 (Config.resetDE.toNat / 256)
  e := BitVec.ofNat 8 Config.resetDE.toNat
  h := BitVec.ofNat 8 (Config.resetHL.toNat / 256)
  l := BitVec.ofNat 8 Config.resetHL.toNat
  pc := Config.resetPC
  sp := Config.resetSP
  ime := false
  halted := false
  romb := Config.resetRomb
  ramb := Config.resetRamb
  romBanks := Config.romBanks
  ramBanks := Config.ramBanks
  cart := []
  xram := []
  gm := []

end Sys2Proof.Machine
end

