-- ==== Sys2Proof/Machine/Ops.lean ====
section
/-! DEFINITION. The operations every meaning shares: storage arrays and their canonical form, the address-space
router (20_memory.md R60 to R73), register pairs and operand registers (10_state.md R20 to R26), flags as a byte
(R9), the stack primitives (47_stack.md R353, R354), the end of a step (30_encoding.md R110), the Unimplemented
signal (60_exceptions.md R400) and fetch (R84, R110). -/

namespace Sys2Proof.Machine

/-! ### Storage arrays -/

/-- The byte at index `k`. -/
def Memory.read : Memory → Nat → Byte
  | [], _ => Config.unlistedByte
  | (j, v) :: rest, k => if j = k then v else Memory.read rest k

/-- The array with `v` at index `k`, keeping the canonical form: sorted, and nothing listed that reads the same
unlisted. -/
def Memory.write : Memory → Nat → Byte → Memory
  | [], k, v => if v = Config.unlistedByte then [] else [(k, v)]
  | (j, w) :: rest, k, v =>
    if k < j then (if v = Config.unlistedByte then (j, w) :: rest else (k, v) :: (j, w) :: rest)
    else if k = j then (if v = Config.unlistedByte then rest else (k, v) :: rest)
    else (j, w) :: Memory.write rest k v

/-- The canonical form from index `lo` up: indexes strictly rising, none listed with the unlisted byte. -/
def Memory.wfFrom : Nat → Memory → Bool
  | _, [] => true
  | lo, (j, v) :: rest => decide (lo ≤ j) && v != Config.unlistedByte && Memory.wfFrom (j + 1) rest

/-- The canonical form: equal arrays are equal lists. -/
def Memory.wf (m : Memory) : Bool := m.wfFrom 0

/-- Every listed index is below `n`. -/
def Memory.within (m : Memory) (n : Nat) : Bool := m.all fun cell => decide (cell.1 < n)

/-- Store a list of (index, byte) pairs in order (R440 steps 2 to 4: raw stores, a later pair wins). -/
def Memory.overlay (m : Memory) (cells : List Host.Cell) : Memory :=
  cells.foldl (fun acc cell => acc.write cell.1 cell.2) m

/-- The array that holds `bytes` from index `k` on (R34: "index 0 first"). -/
def Memory.ofBytes : Nat → List Byte → Memory
  | _, [] => []
  | k, v :: rest => if v = Config.unlistedByte then Memory.ofBytes (k + 1) rest else (k, v) :: Memory.ofBytes (k + 1) rest

/-! ### The address-space router -/

/-- The physical index in CART of a logical address in the ROM window 0x4000 to 0x7FFF (R62, R80). -/
def State.romIndex (s : State) (n : Nat) : Nat := s.romb * Config.romBankSize + (n - 0x4000)

/-- The physical index in XRAM of a logical address in the window 0xA000 to 0xBFFF (R64, R80). -/
def State.ramIndex (s : State) (n : Nat) : Nat := s.ramb * Config.ramBankSize + (n - 0xA000)

/-- `ReadByte(a)` (R68): total, no side effect. -/
def State.readByte (s : State) (addr : Word) : Byte :=
  let n := addr.toNat
  if n ≤ 0x3FFF then s.cart.read n
  else if n ≤ 0x7FFF then s.cart.read (s.romIndex n)
  else if 0xA000 ≤ n ∧ n ≤ 0xBFFF then s.xram.read (s.ramIndex n)
  else s.gm.read n

/-- `WriteByte(v, a)` (R69): total, never faults. The mirror stores are raw stores into GM (R70). -/
def State.writeByte (s : State) (addr : Word) (v : Byte) : State :=
  let n := addr.toNat
  if n ≤ 0x7FFF then s
  else if 0xA000 ≤ n ∧ n ≤ 0xBFFF then { s with xram := s.xram.write (s.ramIndex n) v }
  else if 0xC000 ≤ n ∧ n ≤ 0xDFFF then { s with gm := (s.gm.write n v).write (n + 0x2000) v }
  else if 0xE000 ≤ n ∧ n ≤ 0xFDFF then { s with gm := (s.gm.write n v).write (n - 0x2000) v }
  else if 0xFEA0 ≤ n ∧ n ≤ 0xFEFF then s
  else { s with gm := s.gm.write n v }

/-- `MemRead(addr, 2)` (R72): low byte at `addr`, high byte at `(addr + 1) & 0xFFFF`. -/
def State.readWord (s : State) (addr : Word) : Word := word16 (s.readByte (addr + 1)) (s.readByte addr)

/-- `MemWrite(addr, 2, v)` (R73): low byte first. -/
def State.writeWord (s : State) (addr : Word) (v : Word) : State :=
  (s.writeByte addr (loByte v)).writeByte (addr + 1) (hiByte v)

/-- The logical addresses whose content a write presented at `addr` may change: the table of R70. -/
def writeTargets (addr : Word) : List Word :=
  let n := addr.toNat
  if n ≤ 0x7FFF then []
  else if n ≤ 0xBFFF then [addr]
  else if n ≤ 0xDFFF then [addr, addr + 0x2000]
  else if n ≤ 0xFDFF then [addr, addr - 0x2000]
  else if 0xFEA0 ≤ n ∧ n ≤ 0xFEFF then []
  else [addr]

/-- Put a byte into the cell a fetch of `addr` reads, whatever the router does with a write: what loading a program
from outside amounts to (R34, R440 step 5; log entry 4). No instruction does this. -/
def State.poke (s : State) (addr : Word) (v : Byte) : State :=
  let n := addr.toNat
  if n ≤ 0x3FFF then { s with cart := s.cart.write n v }
  else if n ≤ 0x7FFF then { s with cart := s.cart.write (s.romIndex n) v }
  else if 0xA000 ≤ n ∧ n ≤ 0xBFFF then { s with xram := s.xram.write (s.ramIndex n) v }
  else { s with gm := s.gm.write n v }

/-! ### Registers -/

/-- An 8-bit register operand (R103; R22: reading a half). -/
def State.getReg8 (s : State) : Reg8 → Byte
  | .a => s.a | .b => s.b | .c => s.c | .d => s.d | .e => s.e | .h => s.h | .l => s.l

/-- Write a register half; the other half is untouched (R22). -/
def State.setReg8 (s : State) (r : Reg8) (v : Byte) : State :=
  match r with
  | .a => { s with a := v }
  | .b => { s with b := v }
  | .c => { s with c := v }
  | .d => { s with d := v }
  | .e => { s with e := v }
  | .h => { s with h := v }
  | .l => { s with l := v }

/-- The pairs as words: "word = hi<<8 | lo always" (R21). -/
def State.af (s : State) : Word := word16 s.a s.f
@[inherit_doc State.af] def State.bc (s : State) : Word := word16 s.b s.c
@[inherit_doc State.af] def State.de (s : State) : Word := word16 s.d s.e
@[inherit_doc State.af] def State.hl (s : State) : Word := word16 s.h s.l

/-- Write a pair: `hi <- (v >> 8) & 0xFF`, `lo <- v & 0xFF` (R22). -/
def State.setBC (s : State) (v : Word) : State := { s with b := hiByte v, c := loByte v }
@[inherit_doc State.setBC] def State.setDE (s : State) (v : Word) : State := { s with d := hiByte v, e := loByte v }
@[inherit_doc State.setBC] def State.setHL (s : State) (v : Word) : State := { s with h := hiByte v, l := loByte v }

/-- Write AF: the low half keeps bits 3..0 at 0, `F <- byte & 0xF0` (R25, R352). -/
def State.setAF (s : State) (v : Word) : State := { s with a := hiByte v, f := loByte v &&& 0xF0 }

/-- `r16[p]` (R104). -/
def State.getReg16 (s : State) : Reg16 → Word
  | .bc => s.bc | .de => s.de | .hl => s.hl | .sp => s.sp

/-- `r16[p] <- v` (R104). -/
def State.setReg16 (s : State) (p : Reg16) (v : Word) : State :=
  match p with
  | .bc => s.setBC v
  | .de => s.setDE v
  | .hl => s.setHL v
  | .sp => { s with sp := v }

/-- `r16stk[p]` (R105). -/
def State.getStk (s : State) : RegStk → Word
  | .bc => s.bc | .de => s.de | .hl => s.hl | .af => s.af

/-- `r16stk[p] <- v` (R105, R351, R352). -/
def State.setStk (s : State) (p : RegStk) (v : Word) : State :=
  match p with
  | .bc => s.setBC v
  | .de => s.setDE v
  | .hl => s.setHL v
  | .af => s.setAF v

/-! ### Flags (R24, R26, R9) -/

/-- `fZ`, `fN`, `fH`, `fC`: bits 7, 6, 5, 4 of F (R24). -/
def State.fZ (s : State) : Bool := s.f.getLsbD 7
@[inherit_doc State.fZ] def State.fN (s : State) : Bool := s.f.getLsbD 6
@[inherit_doc State.fZ] def State.fH (s : State) : Bool := s.f.getLsbD 5
@[inherit_doc State.fZ] def State.fC (s : State) : Bool := s.f.getLsbD 4

/-- `(z<<7) | (n<<6) | (h<<5) | (c<<4)` (R9): bits 3..0 are 0. -/
def flagByte (z n h c : Bool) : Byte :=
  (if z then 0x80 else 0) ||| (if n then 0x40 else 0) ||| (if h then 0x20 else 0) ||| (if c then 0x10 else 0)

/-- `flags(z, n, h, c)` (R9); `none` is the argument written `-`, which keeps that flag. -/
def State.flags (s : State) (z n h c : Option Bool) : State :=
  { s with f := flagByte (z.getD s.fZ) (n.getD s.fN) (h.getD s.fH) (c.getD s.fC) }

/-! ### The stack -/

/-- `push16(w)` (R353): high byte at SP-1, low byte at SP-2, then SP falls by 2. -/
def State.push16 (s : State) (w : Word) : State :=
  { (s.writeByte (s.sp - 1) (hiByte w)).writeByte (s.sp - 2) (loByte w) with sp := s.sp - 2 }

/-- The word `pop16()` answers (R354): low byte at SP, high byte at SP+1. -/
def State.stackTop (s : State) : Word := s.readWord s.sp

/-- SP after `pop16()` (R354). The popped cells are not modified. -/
def State.dropTop (s : State) : State := { s with sp := s.sp + 2 }

/-! ### Arithmetic on widths -/

/-- `sext_16(b)` (R8): `b` if `b < 0x80`, else `0xFF00 + b`. -/
def sext16 (b : Byte) : Word :=
  if b.toNat < 0x80 then BitVec.ofNat 16 b.toNat else BitVec.ofNat 16 (0xFF00 + b.toNat)

/-- `zext_16(b)` (R8). -/
def zext16 (b : Byte) : Word := BitVec.ofNat 16 b.toNat

/-! ### How a step ends (R110) -/

/-- `pcnext` of an instruction of `len` bytes (R9, R110). -/
def State.pcNext (s : State) (len : Nat) : Word := s.pc + BitVec.ofNat 16 len

/-- The step ends with `PC <- pcnext`: the instruction did not assign `pc` (R110). The state is the one after the
instruction's own effect, in which PC is still pc0. -/
def retire (len : Nat) (s : State) : Result := .next { s with pc := s.pcNext len }

/-- `pc <- target` (R9, R331 item 1): nothing is added to it. -/
def jumpTo (target : Word) (s : State) : Result := .next { s with pc := target }

/-- `raise Unimplemented(opcode, pc0)` (R400, R402): the one exception. No state is saved, no mode changes, no vector
is fetched; the step answers the opcode and pc0 and the state is as it was. There is no return from it inside the block
(R403): the host recovers by FORCEPC or RESET (Machine/HostOps.lean). -/
def raiseUnimplemented (opcode : Byte) (s : State) : Result := .fault (.unimplemented opcode s.pc)

/-! ### Fetch -/

/-- The instruction at PC (R84, R110): byte 0 at pc0, byte 1 at pc0+1, byte 2 at pc0+2, through the router, wrapping.
Bytes beyond the instruction's length are read and ignored: a read has no side effect (R78; log entry 8). -/
def State.fetch (s : State) : Instr :=
  decode3 (s.readByte s.pc) (s.readByte (s.pc + 1)) (s.readByte (s.pc + 2))

/-- The state whose next fetch reads the three given bytes, not halted, everything else as before. -/
def State.loadAtPC (s : State) (bytes : Byte × Byte × Byte) : State :=
  { ((s.poke s.pc bytes.1).poke (s.pc + 1) bytes.2.1).poke (s.pc + 2) bytes.2.2 with halted := false }

end Sys2Proof.Machine
end

