-- ==== Sys2Proof/Machine/Operands.lean ====
section
/-! DEFINITION. The operand forms: table R8 with its memory entry (30_encoding.md R103), the second operand of the
8-bit ALU (41_alu8.md R200), the effective addresses of loads and stores (40_load_store.md R139), the pointers of
table R16MEM with their side effect (R106), the relative target of JR (46_control.md R323) and conditions (R107). -/

namespace Sys2Proof.Machine

/-- `r8[i]` (R103): index 6 reads `MemRead(HL, 1)`. -/
def State.getLoc (s : State) : Loc8 → Byte
  | .reg r => s.getReg8 r
  | .mHL => s.readByte s.hl

/-- `r8[i] <- v` (R103): index 6 performs `MemWrite(HL, 1, v)`. -/
def State.setLoc (s : State) (x : Loc8) (v : Byte) : State :=
  match x with
  | .reg r => s.setReg8 r v
  | .mHL => s.writeByte s.hl v

/-- The operand `x` of an 8-bit ALU operation (R200). -/
def State.getSrc (s : State) : Src8 → Byte
  | .loc l => s.getLoc l
  | .imm n => n

/-- The length of an 8-bit ALU instruction by its operand form (R200). -/
def srcLength : Src8 → Nat
  | .loc _ => 1
  | .imm _ => 2

/-- The address a table R16MEM pointer names (R106, R139). -/
def State.ptrAddr (s : State) : MemPtr → Word
  | .bc => s.bc
  | .de => s.de
  | .hlInc | .hlDec => s.hl

/-- What a table R16MEM pointer does to HL after the access (R106, R139). -/
def State.ptrAfter (s : State) : MemPtr → State
  | .bc | .de => s
  | .hlInc => s.setHL (s.hl + 1)
  | .hlDec => s.setHL (s.hl - 1)

/-- `0xFF00 + n`: the high-page address of `LDH` and `LD (C)` (R139, R153 to R156). -/
def highPage (n : Byte) : Word := 0xFF00 + zext16 n

/-- `(pcnext + sext_16(imm8)) & 0xFFFF`, the target of a taken JR (R323); a JR is two bytes long. -/
def State.relTarget (s : State) (e8 : Byte) : Word := s.pcNext 2 + sext16 e8

/-- `cond(cc)`: one flag, one polarity (R107, R331 item 2). -/
def State.cond (s : State) : Cond → Bool
  | .nz => !s.fZ
  | .z => s.fZ
  | .nc => !s.fC
  | .c => s.fC

end Sys2Proof.Machine
end

