-- ==== Sys2Proof/Machine/Flags.lean ====
section
/-! DEFINITION. What the arithmetic computes: results with their flags, by exact integer arithmetic on unsigned
values and explicit narrowing (00_scope.md R8; 41_alu8.md R209; 42_arith16.md R234). -/

namespace Sys2Proof.Machine

/-- A result byte with the four flags an operation computes for it. -/
structure Alu8Result where
  val : Byte
  z : Bool
  n : Bool
  h : Bool
  c : Bool
deriving DecidableEq, Repr

/-- The value of `x & 0x0F`. -/
def lowNibble (x : Byte) : Nat := x.toNat % 16

/-- 0 or 1 as an integer. -/
def carryNat (cin : Bool) : Nat := if cin then 1 else 0

/-- `A + x + cin` (R201, R202): half-carry out of bit 3, carry out of bit 7, both with the carry-in. -/
def addBytes (a x : Byte) (cin : Bool) : Alu8Result :=
  let s := a.toNat + x.toNat + carryNat cin
  let val : Byte := BitVec.ofNat 8 s
  { val, z := val == 0, n := false, h := decide (lowNibble a + lowNibble x + carryNat cin > 0x0F), c := decide (s > 0xFF) }

/-- `A - x - cin` (R203, R204): the borrows from bit 4 and below 0, both with the carry-in. -/
def subBytes (a x : Byte) (cin : Bool) : Alu8Result :=
  let val : Byte := BitVec.ofNat 8 (a.toNat + 0x200 - (x.toNat + carryNat cin))
  { val, z := val == 0, n := true, h := decide (lowNibble a < lowNibble x + carryNat cin),
    c := decide (a.toNat < x.toNat + carryNat cin) }

/-- A logic result: Z from the result, N = 0, C = 0, H as given (R205 to R207). -/
def logicResult (val : Byte) (h : Bool) : Alu8Result := { val, z := val == 0, n := false, h, c := false }

/-- The eight operations of table ALU on A, the operand and the old Carry (R201 to R208). -/
def aluCompute (o : AluOp) (a x : Byte) (cin : Bool) : Alu8Result :=
  match o with
  | .add => addBytes a x false
  | .adc => addBytes a x cin
  | .sub | .cp => subBytes a x false
  | .sbc => subBytes a x cin
  | .and => logicResult (a &&& x) true
  | .xor => logicResult (a ^^^ x) false
  | .or => logicResult (a ||| x) false

/-- A 16-bit sum with the carries out of bit 11 and bit 15 (R230, R231, R234). -/
structure Add16Result where
  val : Word
  h : Bool
  c : Bool
deriving DecidableEq, Repr

/-- The unsigned 16-bit addition of R230 and R231. -/
def addWords (x y : Word) : Add16Result :=
  { val := BitVec.ofNat 16 (x.toNat + y.toNat), h := decide (x.toNat % 0x1000 + y.toNat % 0x1000 > 0x0FFF),
    c := decide (x.toNat + y.toNat > 0xFFFF) }

/-- `SP + sext_16(imm8)` with the carries of the LOW BYTE addition, of `LD HL,SP+e8` (R163): bit 3 and bit 7. -/
def spOffset8 (sp : Word) (e8 : Byte) : Add16Result :=
  { val := sp + sext16 e8, h := decide (sp.toNat % 0x10 + lowNibble e8 > 0x0F),
    c := decide (sp.toNat % 0x100 + e8.toNat > 0xFF) }

/-- A rotated or shifted byte and the new Carry. -/
structure RotResult where
  val : Byte
  c : Bool
deriving DecidableEq, Repr

/-- One bit as a byte at bit 0. -/
def bitByte (b : Bool) : Byte := if b then 1 else 0

/-- The eight operations of table ROT on the operand and the old Carry (R264 to R271). -/
def rotCompute (o : RotOp) (v : Byte) (cin : Bool) : RotResult :=
  match o with
  | .rlc => { val := (v <<< 1) ||| bitByte (v.getLsbD 7), c := v.getLsbD 7 }
  | .rrc => { val := (v >>> 1) ||| (bitByte (v.getLsbD 0) <<< 7), c := v.getLsbD 0 }
  | .rl => { val := (v <<< 1) ||| bitByte cin, c := v.getLsbD 7 }
  | .rr => { val := (v >>> 1) ||| (bitByte cin <<< 7), c := v.getLsbD 0 }
  | .sla => { val := v <<< 1, c := v.getLsbD 7 }
  | .sra => { val := (v >>> 1) ||| (v &&& 0x80), c := v.getLsbD 0 }
  | .swap => { val := (v <<< 4) ||| (v >>> 4), c := false }
  | .srl => { val := v >>> 1, c := v.getLsbD 0 }

/-- The byte with only bit `b` set: `1 << b` (R301, R302). -/
def bitMask (b : Fin 8) : Byte := (1 : Byte) <<< b.val

/-- DAA's adjustment, from A, N, H and C before the instruction (R367). -/
def daaAdjust (a : Byte) (n h c : Bool) : Byte :=
  if n then (if h then 0x06 else 0) ||| (if c then 0x60 else 0)
  else (if h || decide (lowNibble a > 0x09) then 0x06 else 0) ||| (if c || decide (a.toNat > 0x99) then 0x60 else 0)

/-- DAA's result and the new Carry (R367): after an addition the adjustment is added and a 0x60 correction sets
Carry; after a subtraction it is subtracted and Carry stays. -/
def daaCompute (a : Byte) (n h c : Bool) : RotResult :=
  if n then { val := a - daaAdjust a n h c, c }
  else { val := a + daaAdjust a n h c, c := c || decide (a.toNat > 0x99) }

end Sys2Proof.Machine
end

