-- ==== Sys2Proof/Machine/Alu8.lean ====
section
/-! DEFINITION. The 8-bit ALU instructions (41_alu8.md R200 to R209). -/

namespace Sys2Proof.Machine

/-- The operation `o` on A and the operand `x` (R200 to R208): the operand is read first, then A (but for CP) and all
four flags are written. -/
def alu (o : AluOp) (x : Src8) (s : State) : Result :=
  let r := aluCompute o s.a (s.getSrc x) s.fC
  let t := if o = .cp then s else { s with a := r.val }
  retire (srcLength x) (t.flags (some r.z) (some r.n) (some r.h) (some r.c))

/-- ADD A,B (0x80), R201. -/
def execAddA_B (s : State) : Result := alu .add (.loc (.reg .b)) s

/-- ADD A,C (0x81), R201. -/
def execAddA_C (s : State) : Result := alu .add (.loc (.reg .c)) s

/-- ADD A,D (0x82), R201. -/
def execAddA_D (s : State) : Result := alu .add (.loc (.reg .d)) s

/-- ADD A,E (0x83), R201. -/
def execAddA_E (s : State) : Result := alu .add (.loc (.reg .e)) s

/-- ADD A,H (0x84), R201. -/
def execAddA_H (s : State) : Result := alu .add (.loc (.reg .h)) s

/-- ADD A,L (0x85), R201. -/
def execAddA_L (s : State) : Result := alu .add (.loc (.reg .l)) s

/-- ADD A,(HL) (0x86), R201. -/
def execAddA_MHL (s : State) : Result := alu .add (.loc .mHL) s

/-- ADD A,A (0x87), R201. -/
def execAddA_A (s : State) : Result := alu .add (.loc (.reg .a)) s

/-- ADC A,B (0x88), R202. -/
def execAdcA_B (s : State) : Result := alu .adc (.loc (.reg .b)) s

/-- ADC A,C (0x89), R202. -/
def execAdcA_C (s : State) : Result := alu .adc (.loc (.reg .c)) s

/-- ADC A,D (0x8A), R202. -/
def execAdcA_D (s : State) : Result := alu .adc (.loc (.reg .d)) s

/-- ADC A,E (0x8B), R202. -/
def execAdcA_E (s : State) : Result := alu .adc (.loc (.reg .e)) s

/-- ADC A,H (0x8C), R202. -/
def execAdcA_H (s : State) : Result := alu .adc (.loc (.reg .h)) s

/-- ADC A,L (0x8D), R202. -/
def execAdcA_L (s : State) : Result := alu .adc (.loc (.reg .l)) s

/-- ADC A,(HL) (0x8E), R202. -/
def execAdcA_MHL (s : State) : Result := alu .adc (.loc .mHL) s

/-- ADC A,A (0x8F), R202. -/
def execAdcA_A (s : State) : Result := alu .adc (.loc (.reg .a)) s

/-- SUB B (0x90), R203. -/
def execSubB (s : State) : Result := alu .sub (.loc (.reg .b)) s

/-- SUB C (0x91), R203. -/
def execSubC (s : State) : Result := alu .sub (.loc (.reg .c)) s

/-- SUB D (0x92), R203. -/
def execSubD (s : State) : Result := alu .sub (.loc (.reg .d)) s

/-- SUB E (0x93), R203. -/
def execSubE (s : State) : Result := alu .sub (.loc (.reg .e)) s

/-- SUB H (0x94), R203. -/
def execSubH (s : State) : Result := alu .sub (.loc (.reg .h)) s

/-- SUB L (0x95), R203. -/
def execSubL (s : State) : Result := alu .sub (.loc (.reg .l)) s

/-- SUB (HL) (0x96), R203. -/
def execSubMHL (s : State) : Result := alu .sub (.loc .mHL) s

/-- SUB A (0x97), R203. -/
def execSubA (s : State) : Result := alu .sub (.loc (.reg .a)) s

/-- SBC A,B (0x98), R204. -/
def execSbcA_B (s : State) : Result := alu .sbc (.loc (.reg .b)) s

/-- SBC A,C (0x99), R204. -/
def execSbcA_C (s : State) : Result := alu .sbc (.loc (.reg .c)) s

/-- SBC A,D (0x9A), R204. -/
def execSbcA_D (s : State) : Result := alu .sbc (.loc (.reg .d)) s

/-- SBC A,E (0x9B), R204. -/
def execSbcA_E (s : State) : Result := alu .sbc (.loc (.reg .e)) s

/-- SBC A,H (0x9C), R204. -/
def execSbcA_H (s : State) : Result := alu .sbc (.loc (.reg .h)) s

/-- SBC A,L (0x9D), R204. -/
def execSbcA_L (s : State) : Result := alu .sbc (.loc (.reg .l)) s

/-- SBC A,(HL) (0x9E), R204. -/
def execSbcA_MHL (s : State) : Result := alu .sbc (.loc .mHL) s

/-- SBC A,A (0x9F), R204. -/
def execSbcA_A (s : State) : Result := alu .sbc (.loc (.reg .a)) s

/-- AND B (0xA0), R205. -/
def execAndB (s : State) : Result := alu .and (.loc (.reg .b)) s

/-- AND C (0xA1), R205. -/
def execAndC (s : State) : Result := alu .and (.loc (.reg .c)) s

/-- AND D (0xA2), R205. -/
def execAndD (s : State) : Result := alu .and (.loc (.reg .d)) s

/-- AND E (0xA3), R205. -/
def execAndE (s : State) : Result := alu .and (.loc (.reg .e)) s

/-- AND H (0xA4), R205. -/
def execAndH (s : State) : Result := alu .and (.loc (.reg .h)) s

/-- AND L (0xA5), R205. -/
def execAndL (s : State) : Result := alu .and (.loc (.reg .l)) s

/-- AND (HL) (0xA6), R205. -/
def execAndMHL (s : State) : Result := alu .and (.loc .mHL) s

/-- AND A (0xA7), R205. -/
def execAndA (s : State) : Result := alu .and (.loc (.reg .a)) s

/-- XOR B (0xA8), R206. -/
def execXorB (s : State) : Result := alu .xor (.loc (.reg .b)) s

/-- XOR C (0xA9), R206. -/
def execXorC (s : State) : Result := alu .xor (.loc (.reg .c)) s

/-- XOR D (0xAA), R206. -/
def execXorD (s : State) : Result := alu .xor (.loc (.reg .d)) s

/-- XOR E (0xAB), R206. -/
def execXorE (s : State) : Result := alu .xor (.loc (.reg .e)) s

/-- XOR H (0xAC), R206. -/
def execXorH (s : State) : Result := alu .xor (.loc (.reg .h)) s

/-- XOR L (0xAD), R206. -/
def execXorL (s : State) : Result := alu .xor (.loc (.reg .l)) s

/-- XOR (HL) (0xAE), R206. -/
def execXorMHL (s : State) : Result := alu .xor (.loc .mHL) s

/-- XOR A (0xAF), R206. -/
def execXorA (s : State) : Result := alu .xor (.loc (.reg .a)) s

/-- OR B (0xB0), R207. -/
def execOrB (s : State) : Result := alu .or (.loc (.reg .b)) s

/-- OR C (0xB1), R207. -/
def execOrC (s : State) : Result := alu .or (.loc (.reg .c)) s

/-- OR D (0xB2), R207. -/
def execOrD (s : State) : Result := alu .or (.loc (.reg .d)) s

/-- OR E (0xB3), R207. -/
def execOrE (s : State) : Result := alu .or (.loc (.reg .e)) s

/-- OR H (0xB4), R207. -/
def execOrH (s : State) : Result := alu .or (.loc (.reg .h)) s

/-- OR L (0xB5), R207. -/
def execOrL (s : State) : Result := alu .or (.loc (.reg .l)) s

/-- OR (HL) (0xB6), R207. -/
def execOrMHL (s : State) : Result := alu .or (.loc .mHL) s

/-- OR A (0xB7), R207. -/
def execOrA (s : State) : Result := alu .or (.loc (.reg .a)) s

/-- CP B (0xB8), R208. -/
def execCpB (s : State) : Result := alu .cp (.loc (.reg .b)) s

/-- CP C (0xB9), R208. -/
def execCpC (s : State) : Result := alu .cp (.loc (.reg .c)) s

/-- CP D (0xBA), R208. -/
def execCpD (s : State) : Result := alu .cp (.loc (.reg .d)) s

/-- CP E (0xBB), R208. -/
def execCpE (s : State) : Result := alu .cp (.loc (.reg .e)) s

/-- CP H (0xBC), R208. -/
def execCpH (s : State) : Result := alu .cp (.loc (.reg .h)) s

/-- CP L (0xBD), R208. -/
def execCpL (s : State) : Result := alu .cp (.loc (.reg .l)) s

/-- CP (HL) (0xBE), R208. -/
def execCpMHL (s : State) : Result := alu .cp (.loc .mHL) s

/-- CP A (0xBF), R208. -/
def execCpA (s : State) : Result := alu .cp (.loc (.reg .a)) s

/-- ADD A,d8 (0xC6), R201. -/
def execAddA_d8 (d8 : Byte) (s : State) : Result := alu .add (.imm d8) s

/-- ADC A,d8 (0xCE), R202. -/
def execAdcA_d8 (d8 : Byte) (s : State) : Result := alu .adc (.imm d8) s

/-- SUB d8 (0xD6), R203. -/
def execSub_d8 (d8 : Byte) (s : State) : Result := alu .sub (.imm d8) s

/-- SBC A,d8 (0xDE), R204. -/
def execSbcA_d8 (d8 : Byte) (s : State) : Result := alu .sbc (.imm d8) s

/-- AND d8 (0xE6), R205. -/
def execAnd_d8 (d8 : Byte) (s : State) : Result := alu .and (.imm d8) s

/-- XOR d8 (0xEE), R206. -/
def execXor_d8 (d8 : Byte) (s : State) : Result := alu .xor (.imm d8) s

/-- OR d8 (0xF6), R207. -/
def execOr_d8 (d8 : Byte) (s : State) : Result := alu .or (.imm d8) s

/-- CP d8 (0xFE), R208. -/
def execCp_d8 (d8 : Byte) (s : State) : Result := alu .cp (.imm d8) s

end Sys2Proof.Machine
end

