-- ==== Sys2Proof/Machine/Arith16.lean ====
section
/-! DEFINITION. The 16-bit arithmetic instructions (42_arith16.md R230 to R234). -/

namespace Sys2Proof.Machine

/-- `ADD HL,rr` (R230): Z unchanged, N = 0, carries out of bit 11 and bit 15. -/
def addHLPair (p : Reg16) (s : State) : Result :=
  let r := addWords s.hl (s.getReg16 p)
  retire 1 ((s.setHL r.val).flags none (some false) (some r.h) (some r.c))

/-- `ADD SP,e8` (R231): Z = N = 0, carries out of bit 11 and bit 15 of SP plus the sign-extended displacement. -/
def addSPOffset (e8 : Byte) (s : State) : Result :=
  let r := addWords s.sp (sext16 e8)
  retire 2 (({ s with sp := r.val } : State).flags (some false) (some false) (some r.h) (some r.c))

/-- `INC rr` (R232): no flag changes. -/
def incPair (p : Reg16) (s : State) : Result := retire 1 (s.setReg16 p (s.getReg16 p + 1))

/-- `DEC rr` (R233): no flag changes. -/
def decPair (p : Reg16) (s : State) : Result := retire 1 (s.setReg16 p (s.getReg16 p - 1))

/-- ADD HL,BC (0x09), R230. -/
def execAddHL_BC (s : State) : Result := addHLPair .bc s

/-- ADD HL,DE (0x19), R230. -/
def execAddHL_DE (s : State) : Result := addHLPair .de s

/-- ADD HL,HL (0x29), R230. -/
def execAddHL_HL (s : State) : Result := addHLPair .hl s

/-- ADD HL,SP (0x39), R230. -/
def execAddHL_SP (s : State) : Result := addHLPair .sp s

/-- ADD SP,e8 (0xE8), R231. -/
def execAddSP_e8 (e8 : Byte) (s : State) : Result := addSPOffset e8 s

/-- INC BC (0x03), R232. -/
def execIncBC (s : State) : Result := incPair .bc s

/-- INC DE (0x13), R232. -/
def execIncDE (s : State) : Result := incPair .de s

/-- INC HL (0x23), R232. -/
def execIncHL (s : State) : Result := incPair .hl s

/-- INC SP (0x33), R232. -/
def execIncSP (s : State) : Result := incPair .sp s

/-- DEC BC (0x0B), R233. -/
def execDecBC (s : State) : Result := decPair .bc s

/-- DEC DE (0x1B), R233. -/
def execDecDE (s : State) : Result := decPair .de s

/-- DEC HL (0x2B), R233. -/
def execDecHL (s : State) : Result := decPair .hl s

/-- DEC SP (0x3B), R233. -/
def execDecSP (s : State) : Result := decPair .sp s

end Sys2Proof.Machine
end

