-- ==== Sys2Proof/Machine/Bit.lean ====
section
/-! DEFINITION. BIT, SET and RES (45_bit.md R300 to R303). -/

namespace Sys2Proof.Machine

/-- `BIT b,x` (R300): Z = 1 exactly when the bit is 0, N = 0, H = 1, C unchanged; nothing is written back. -/
def testBit (b : Fin 8) (x : Loc8) (s : State) : Result :=
  retire 2 (s.flags (some (!(s.getLoc x).getLsbD b.val)) (some false) (some true) none)

/-- `SET b,x` (R301): no flag changes. -/
def setBit (b : Fin 8) (x : Loc8) (s : State) : Result := retire 2 (s.setLoc x (s.getLoc x ||| bitMask b))

/-- `RES b,x` (R302): no flag changes. -/
def resetBit (b : Fin 8) (x : Loc8) (s : State) : Result := retire 2 (s.setLoc x (s.getLoc x &&& ~~~(bitMask b)))

/-- BIT 0,B (CB 40), R300. -/
def execBit0_B (s : State) : Result := testBit 0 (.reg .b) s

/-- BIT 0,C (CB 41), R300. -/
def execBit0_C (s : State) : Result := testBit 0 (.reg .c) s

/-- BIT 0,D (CB 42), R300. -/
def execBit0_D (s : State) : Result := testBit 0 (.reg .d) s

/-- BIT 0,E (CB 43), R300. -/
def execBit0_E (s : State) : Result := testBit 0 (.reg .e) s

/-- BIT 0,H (CB 44), R300. -/
def execBit0_H (s : State) : Result := testBit 0 (.reg .h) s

/-- BIT 0,L (CB 45), R300. -/
def execBit0_L (s : State) : Result := testBit 0 (.reg .l) s

/-- BIT 0,(HL) (CB 46), R300. -/
def execBit0_MHL (s : State) : Result := testBit 0 .mHL s

/-- BIT 0,A (CB 47), R300. -/
def execBit0_A (s : State) : Result := testBit 0 (.reg .a) s

/-- BIT 1,B (CB 48), R300. -/
def execBit1_B (s : State) : Result := testBit 1 (.reg .b) s

/-- BIT 1,C (CB 49), R300. -/
def execBit1_C (s : State) : Result := testBit 1 (.reg .c) s

/-- BIT 1,D (CB 4A), R300. -/
def execBit1_D (s : State) : Result := testBit 1 (.reg .d) s

/-- BIT 1,E (CB 4B), R300. -/
def execBit1_E (s : State) : Result := testBit 1 (.reg .e) s

/-- BIT 1,H (CB 4C), R300. -/
def execBit1_H (s : State) : Result := testBit 1 (.reg .h) s

/-- BIT 1,L (CB 4D), R300. -/
def execBit1_L (s : State) : Result := testBit 1 (.reg .l) s

/-- BIT 1,(HL) (CB 4E), R300. -/
def execBit1_MHL (s : State) : Result := testBit 1 .mHL s

/-- BIT 1,A (CB 4F), R300. -/
def execBit1_A (s : State) : Result := testBit 1 (.reg .a) s

/-- BIT 2,B (CB 50), R300. -/
def execBit2_B (s : State) : Result := testBit 2 (.reg .b) s

/-- BIT 2,C (CB 51), R300. -/
def execBit2_C (s : State) : Result := testBit 2 (.reg .c) s

/-- BIT 2,D (CB 52), R300. -/
def execBit2_D (s : State) : Result := testBit 2 (.reg .d) s

/-- BIT 2,E (CB 53), R300. -/
def execBit2_E (s : State) : Result := testBit 2 (.reg .e) s

/-- BIT 2,H (CB 54), R300. -/
def execBit2_H (s : State) : Result := testBit 2 (.reg .h) s

/-- BIT 2,L (CB 55), R300. -/
def execBit2_L (s : State) : Result := testBit 2 (.reg .l) s

/-- BIT 2,(HL) (CB 56), R300. -/
def execBit2_MHL (s : State) : Result := testBit 2 .mHL s

/-- BIT 2,A (CB 57), R300. -/
def execBit2_A (s : State) : Result := testBit 2 (.reg .a) s

/-- BIT 3,B (CB 58), R300. -/
def execBit3_B (s : State) : Result := testBit 3 (.reg .b) s

/-- BIT 3,C (CB 59), R300. -/
def execBit3_C (s : State) : Result := testBit 3 (.reg .c) s

/-- BIT 3,D (CB 5A), R300. -/
def execBit3_D (s : State) : Result := testBit 3 (.reg .d) s

/-- BIT 3,E (CB 5B), R300. -/
def execBit3_E (s : State) : Result := testBit 3 (.reg .e) s

/-- BIT 3,H (CB 5C), R300. -/
def execBit3_H (s : State) : Result := testBit 3 (.reg .h) s

/-- BIT 3,L (CB 5D), R300. -/
def execBit3_L (s : State) : Result := testBit 3 (.reg .l) s

/-- BIT 3,(HL) (CB 5E), R300. -/
def execBit3_MHL (s : State) : Result := testBit 3 .mHL s

/-- BIT 3,A (CB 5F), R300. -/
def execBit3_A (s : State) : Result := testBit 3 (.reg .a) s

/-- BIT 4,B (CB 60), R300. -/
def execBit4_B (s : State) : Result := testBit 4 (.reg .b) s

/-- BIT 4,C (CB 61), R300. -/
def execBit4_C (s : State) : Result := testBit 4 (.reg .c) s

/-- BIT 4,D (CB 62), R300. -/
def execBit4_D (s : State) : Result := testBit 4 (.reg .d) s

/-- BIT 4,E (CB 63), R300. -/
def execBit4_E (s : State) : Result := testBit 4 (.reg .e) s

/-- BIT 4,H (CB 64), R300. -/
def execBit4_H (s : State) : Result := testBit 4 (.reg .h) s

/-- BIT 4,L (CB 65), R300. -/
def execBit4_L (s : State) : Result := testBit 4 (.reg .l) s

/-- BIT 4,(HL) (CB 66), R300. -/
def execBit4_MHL (s : State) : Result := testBit 4 .mHL s

/-- BIT 4,A (CB 67), R300. -/
def execBit4_A (s : State) : Result := testBit 4 (.reg .a) s

/-- BIT 5,B (CB 68), R300. -/
def execBit5_B (s : State) : Result := testBit 5 (.reg .b) s

/-- BIT 5,C (CB 69), R300. -/
def execBit5_C (s : State) : Result := testBit 5 (.reg .c) s

/-- BIT 5,D (CB 6A), R300. -/
def execBit5_D (s : State) : Result := testBit 5 (.reg .d) s

/-- BIT 5,E (CB 6B), R300. -/
def execBit5_E (s : State) : Result := testBit 5 (.reg .e) s

/-- BIT 5,H (CB 6C), R300. -/
def execBit5_H (s : State) : Result := testBit 5 (.reg .h) s

/-- BIT 5,L (CB 6D), R300. -/
def execBit5_L (s : State) : Result := testBit 5 (.reg .l) s

/-- BIT 5,(HL) (CB 6E), R300. -/
def execBit5_MHL (s : State) : Result := testBit 5 .mHL s

/-- BIT 5,A (CB 6F), R300. -/
def execBit5_A (s : State) : Result := testBit 5 (.reg .a) s

/-- BIT 6,B (CB 70), R300. -/
def execBit6_B (s : State) : Result := testBit 6 (.reg .b) s

/-- BIT 6,C (CB 71), R300. -/
def execBit6_C (s : State) : Result := testBit 6 (.reg .c) s

/-- BIT 6,D (CB 72), R300. -/
def execBit6_D (s : State) : Result := testBit 6 (.reg .d) s

/-- BIT 6,E (CB 73), R300. -/
def execBit6_E (s : State) : Result := testBit 6 (.reg .e) s

/-- BIT 6,H (CB 74), R300. -/
def execBit6_H (s : State) : Result := testBit 6 (.reg .h) s

/-- BIT 6,L (CB 75), R300. -/
def execBit6_L (s : State) : Result := testBit 6 (.reg .l) s

/-- BIT 6,(HL) (CB 76), R300. -/
def execBit6_MHL (s : State) : Result := testBit 6 .mHL s

/-- BIT 6,A (CB 77), R300. -/
def execBit6_A (s : State) : Result := testBit 6 (.reg .a) s

/-- BIT 7,B (CB 78), R300. -/
def execBit7_B (s : State) : Result := testBit 7 (.reg .b) s

/-- BIT 7,C (CB 79), R300. -/
def execBit7_C (s : State) : Result := testBit 7 (.reg .c) s

/-- BIT 7,D (CB 7A), R300. -/
def execBit7_D (s : State) : Result := testBit 7 (.reg .d) s

/-- BIT 7,E (CB 7B), R300. -/
def execBit7_E (s : State) : Result := testBit 7 (.reg .e) s

/-- BIT 7,H (CB 7C), R300. -/
def execBit7_H (s : State) : Result := testBit 7 (.reg .h) s

/-- BIT 7,L (CB 7D), R300. -/
def execBit7_L (s : State) : Result := testBit 7 (.reg .l) s

/-- BIT 7,(HL) (CB 7E), R300. -/
def execBit7_MHL (s : State) : Result := testBit 7 .mHL s

/-- BIT 7,A (CB 7F), R300. -/
def execBit7_A (s : State) : Result := testBit 7 (.reg .a) s

/-- SET 0,B (CB C0), R301. -/
def execSet0_B (s : State) : Result := setBit 0 (.reg .b) s

/-- SET 0,C (CB C1), R301. -/
def execSet0_C (s : State) : Result := setBit 0 (.reg .c) s

/-- SET 0,D (CB C2), R301. -/
def execSet0_D (s : State) : Result := setBit 0 (.reg .d) s

/-- SET 0,E (CB C3), R301. -/
def execSet0_E (s : State) : Result := setBit 0 (.reg .e) s

/-- SET 0,H (CB C4), R301. -/
def execSet0_H (s : State) : Result := setBit 0 (.reg .h) s

/-- SET 0,L (CB C5), R301. -/
def execSet0_L (s : State) : Result := setBit 0 (.reg .l) s

/-- SET 0,(HL) (CB C6), R301. -/
def execSet0_MHL (s : State) : Result := setBit 0 .mHL s

/-- SET 0,A (CB C7), R301. -/
def execSet0_A (s : State) : Result := setBit 0 (.reg .a) s

/-- SET 1,B (CB C8), R301. -/
def execSet1_B (s : State) : Result := setBit 1 (.reg .b) s

/-- SET 1,C (CB C9), R301. -/
def execSet1_C (s : State) : Result := setBit 1 (.reg .c) s

/-- SET 1,D (CB CA), R301. -/
def execSet1_D (s : State) : Result := setBit 1 (.reg .d) s

/-- SET 1,E (CB CB), R301. -/
def execSet1_E (s : State) : Result := setBit 1 (.reg .e) s

/-- SET 1,H (CB CC), R301. -/
def execSet1_H (s : State) : Result := setBit 1 (.reg .h) s

/-- SET 1,L (CB CD), R301. -/
def execSet1_L (s : State) : Result := setBit 1 (.reg .l) s

/-- SET 1,(HL) (CB CE), R301. -/
def execSet1_MHL (s : State) : Result := setBit 1 .mHL s

/-- SET 1,A (CB CF), R301. -/
def execSet1_A (s : State) : Result := setBit 1 (.reg .a) s

/-- SET 2,B (CB D0), R301. -/
def execSet2_B (s : State) : Result := setBit 2 (.reg .b) s

/-- SET 2,C (CB D1), R301. -/
def execSet2_C (s : State) : Result := setBit 2 (.reg .c) s

/-- SET 2,D (CB D2), R301. -/
def execSet2_D (s : State) : Result := setBit 2 (.reg .d) s

/-- SET 2,E (CB D3), R301. -/
def execSet2_E (s : State) : Result := setBit 2 (.reg .e) s

/-- SET 2,H (CB D4), R301. -/
def execSet2_H (s : State) : Result := setBit 2 (.reg .h) s

/-- SET 2,L (CB D5), R301. -/
def execSet2_L (s : State) : Result := setBit 2 (.reg .l) s

/-- SET 2,(HL) (CB D6), R301. -/
def execSet2_MHL (s : State) : Result := setBit 2 .mHL s

/-- SET 2,A (CB D7), R301. -/
def execSet2_A (s : State) : Result := setBit 2 (.reg .a) s

/-- SET 3,B (CB D8), R301. -/
def execSet3_B (s : State) : Result := setBit 3 (.reg .b) s

/-- SET 3,C (CB D9), R301. -/
def execSet3_C (s : State) : Result := setBit 3 (.reg .c) s

/-- SET 3,D (CB DA), R301. -/
def execSet3_D (s : State) : Result := setBit 3 (.reg .d) s

/-- SET 3,E (CB DB), R301. -/
def execSet3_E (s : State) : Result := setBit 3 (.reg .e) s

/-- SET 3,H (CB DC), R301. -/
def execSet3_H (s : State) : Result := setBit 3 (.reg .h) s

/-- SET 3,L (CB DD), R301. -/
def execSet3_L (s : State) : Result := setBit 3 (.reg .l) s

/-- SET 3,(HL) (CB DE), R301. -/
def execSet3_MHL (s : State) : Result := setBit 3 .mHL s

/-- SET 3,A (CB DF), R301. -/
def execSet3_A (s : State) : Result := setBit 3 (.reg .a) s

/-- SET 4,B (CB E0), R301. -/
def execSet4_B (s : State) : Result := setBit 4 (.reg .b) s

/-- SET 4,C (CB E1), R301. -/
def execSet4_C (s : State) : Result := setBit 4 (.reg .c) s

/-- SET 4,D (CB E2), R301. -/
def execSet4_D (s : State) : Result := setBit 4 (.reg .d) s

/-- SET 4,E (CB E3), R301. -/
def execSet4_E (s : State) : Result := setBit 4 (.reg .e) s

/-- SET 4,H (CB E4), R301. -/
def execSet4_H (s : State) : Result := setBit 4 (.reg .h) s

/-- SET 4,L (CB E5), R301. -/
def execSet4_L (s : State) : Result := setBit 4 (.reg .l) s

/-- SET 4,(HL) (CB E6), R301. -/
def execSet4_MHL (s : State) : Result := setBit 4 .mHL s

/-- SET 4,A (CB E7), R301. -/
def execSet4_A (s : State) : Result := setBit 4 (.reg .a) s

/-- SET 5,B (CB E8), R301. -/
def execSet5_B (s : State) : Result := setBit 5 (.reg .b) s

/-- SET 5,C (CB E9), R301. -/
def execSet5_C (s : State) : Result := setBit 5 (.reg .c) s

/-- SET 5,D (CB EA), R301. -/
def execSet5_D (s : State) : Result := setBit 5 (.reg .d) s

/-- SET 5,E (CB EB), R301. -/
def execSet5_E (s : State) : Result := setBit 5 (.reg .e) s

/-- SET 5,H (CB EC), R301. -/
def execSet5_H (s : State) : Result := setBit 5 (.reg .h) s

/-- SET 5,L (CB ED), R301. -/
def execSet5_L (s : State) : Result := setBit 5 (.reg .l) s

/-- SET 5,(HL) (CB EE), R301. -/
def execSet5_MHL (s : State) : Result := setBit 5 .mHL s

/-- SET 5,A (CB EF), R301. -/
def execSet5_A (s : State) : Result := setBit 5 (.reg .a) s

/-- SET 6,B (CB F0), R301. -/
def execSet6_B (s : State) : Result := setBit 6 (.reg .b) s

/-- SET 6,C (CB F1), R301. -/
def execSet6_C (s : State) : Result := setBit 6 (.reg .c) s

/-- SET 6,D (CB F2), R301. -/
def execSet6_D (s : State) : Result := setBit 6 (.reg .d) s

/-- SET 6,E (CB F3), R301. -/
def execSet6_E (s : State) : Result := setBit 6 (.reg .e) s

/-- SET 6,H (CB F4), R301. -/
def execSet6_H (s : State) : Result := setBit 6 (.reg .h) s

/-- SET 6,L (CB F5), R301. -/
def execSet6_L (s : State) : Result := setBit 6 (.reg .l) s

/-- SET 6,(HL) (CB F6), R301. -/
def execSet6_MHL (s : State) : Result := setBit 6 .mHL s

/-- SET 6,A (CB F7), R301. -/
def execSet6_A (s : State) : Result := setBit 6 (.reg .a) s

/-- SET 7,B (CB F8), R301. -/
def execSet7_B (s : State) : Result := setBit 7 (.reg .b) s

/-- SET 7,C (CB F9), R301. -/
def execSet7_C (s : State) : Result := setBit 7 (.reg .c) s

/-- SET 7,D (CB FA), R301. -/
def execSet7_D (s : State) : Result := setBit 7 (.reg .d) s

/-- SET 7,E (CB FB), R301. -/
def execSet7_E (s : State) : Result := setBit 7 (.reg .e) s

/-- SET 7,H (CB FC), R301. -/
def execSet7_H (s : State) : Result := setBit 7 (.reg .h) s

/-- SET 7,L (CB FD), R301. -/
def execSet7_L (s : State) : Result := setBit 7 (.reg .l) s

/-- SET 7,(HL) (CB FE), R301. -/
def execSet7_MHL (s : State) : Result := setBit 7 .mHL s

/-- SET 7,A (CB FF), R301. -/
def execSet7_A (s : State) : Result := setBit 7 (.reg .a) s

/-- RES 0,B (CB 80), R302. -/
def execRes0_B (s : State) : Result := resetBit 0 (.reg .b) s

/-- RES 0,C (CB 81), R302. -/
def execRes0_C (s : State) : Result := resetBit 0 (.reg .c) s

/-- RES 0,D (CB 82), R302. -/
def execRes0_D (s : State) : Result := resetBit 0 (.reg .d) s

/-- RES 0,E (CB 83), R302. -/
def execRes0_E (s : State) : Result := resetBit 0 (.reg .e) s

/-- RES 0,H (CB 84), R302. -/
def execRes0_H (s : State) : Result := resetBit 0 (.reg .h) s

/-- RES 0,L (CB 85), R302. -/
def execRes0_L (s : State) : Result := resetBit 0 (.reg .l) s

/-- RES 0,(HL) (CB 86), R302. -/
def execRes0_MHL (s : State) : Result := resetBit 0 .mHL s

/-- RES 0,A (CB 87), R302. -/
def execRes0_A (s : State) : Result := resetBit 0 (.reg .a) s

/-- RES 1,B (CB 88), R302. -/
def execRes1_B (s : State) : Result := resetBit 1 (.reg .b) s

/-- RES 1,C (CB 89), R302. -/
def execRes1_C (s : State) : Result := resetBit 1 (.reg .c) s

/-- RES 1,D (CB 8A), R302. -/
def execRes1_D (s : State) : Result := resetBit 1 (.reg .d) s

/-- RES 1,E (CB 8B), R302. -/
def execRes1_E (s : State) : Result := resetBit 1 (.reg .e) s

/-- RES 1,H (CB 8C), R302. -/
def execRes1_H (s : State) : Result := resetBit 1 (.reg .h) s

/-- RES 1,L (CB 8D), R302. -/
def execRes1_L (s : State) : Result := resetBit 1 (.reg .l) s

/-- RES 1,(HL) (CB 8E), R302. -/
def execRes1_MHL (s : State) : Result := resetBit 1 .mHL s

/-- RES 1,A (CB 8F), R302. -/
def execRes1_A (s : State) : Result := resetBit 1 (.reg .a) s

/-- RES 2,B (CB 90), R302. -/
def execRes2_B (s : State) : Result := resetBit 2 (.reg .b) s

/-- RES 2,C (CB 91), R302. -/
def execRes2_C (s : State) : Result := resetBit 2 (.reg .c) s

/-- RES 2,D (CB 92), R302. -/
def execRes2_D (s : State) : Result := resetBit 2 (.reg .d) s

/-- RES 2,E (CB 93), R302. -/
def execRes2_E (s : State) : Result := resetBit 2 (.reg .e) s

/-- RES 2,H (CB 94), R302. -/
def execRes2_H (s : State) : Result := resetBit 2 (.reg .h) s

/-- RES 2,L (CB 95), R302. -/
def execRes2_L (s : State) : Result := resetBit 2 (.reg .l) s

/-- RES 2,(HL) (CB 96), R302. -/
def execRes2_MHL (s : State) : Result := resetBit 2 .mHL s

/-- RES 2,A (CB 97), R302. -/
def execRes2_A (s : State) : Result := resetBit 2 (.reg .a) s

/-- RES 3,B (CB 98), R302. -/
def execRes3_B (s : State) : Result := resetBit 3 (.reg .b) s

/-- RES 3,C (CB 99), R302. -/
def execRes3_C (s : State) : Result := resetBit 3 (.reg .c) s

/-- RES 3,D (CB 9A), R302. -/
def execRes3_D (s : State) : Result := resetBit 3 (.reg .d) s

/-- RES 3,E (CB 9B), R302. -/
def execRes3_E (s : State) : Result := resetBit 3 (.reg .e) s

/-- RES 3,H (CB 9C), R302. -/
def execRes3_H (s : State) : Result := resetBit 3 (.reg .h) s

/-- RES 3,L (CB 9D), R302. -/
def execRes3_L (s : State) : Result := resetBit 3 (.reg .l) s

/-- RES 3,(HL) (CB 9E), R302. -/
def execRes3_MHL (s : State) : Result := resetBit 3 .mHL s

/-- RES 3,A (CB 9F), R302. -/
def execRes3_A (s : State) : Result := resetBit 3 (.reg .a) s

/-- RES 4,B (CB A0), R302. -/
def execRes4_B (s : State) : Result := resetBit 4 (.reg .b) s

/-- RES 4,C (CB A1), R302. -/
def execRes4_C (s : State) : Result := resetBit 4 (.reg .c) s

/-- RES 4,D (CB A2), R302. -/
def execRes4_D (s : State) : Result := resetBit 4 (.reg .d) s

/-- RES 4,E (CB A3), R302. -/
def execRes4_E (s : State) : Result := resetBit 4 (.reg .e) s

/-- RES 4,H (CB A4), R302. -/
def execRes4_H (s : State) : Result := resetBit 4 (.reg .h) s

/-- RES 4,L (CB A5), R302. -/
def execRes4_L (s : State) : Result := resetBit 4 (.reg .l) s

/-- RES 4,(HL) (CB A6), R302. -/
def execRes4_MHL (s : State) : Result := resetBit 4 .mHL s

/-- RES 4,A (CB A7), R302. -/
def execRes4_A (s : State) : Result := resetBit 4 (.reg .a) s

/-- RES 5,B (CB A8), R302. -/
def execRes5_B (s : State) : Result := resetBit 5 (.reg .b) s

/-- RES 5,C (CB A9), R302. -/
def execRes5_C (s : State) : Result := resetBit 5 (.reg .c) s

/-- RES 5,D (CB AA), R302. -/
def execRes5_D (s : State) : Result := resetBit 5 (.reg .d) s

/-- RES 5,E (CB AB), R302. -/
def execRes5_E (s : State) : Result := resetBit 5 (.reg .e) s

/-- RES 5,H (CB AC), R302. -/
def execRes5_H (s : State) : Result := resetBit 5 (.reg .h) s

/-- RES 5,L (CB AD), R302. -/
def execRes5_L (s : State) : Result := resetBit 5 (.reg .l) s

/-- RES 5,(HL) (CB AE), R302. -/
def execRes5_MHL (s : State) : Result := resetBit 5 .mHL s

/-- RES 5,A (CB AF), R302. -/
def execRes5_A (s : State) : Result := resetBit 5 (.reg .a) s

/-- RES 6,B (CB B0), R302. -/
def execRes6_B (s : State) : Result := resetBit 6 (.reg .b) s

/-- RES 6,C (CB B1), R302. -/
def execRes6_C (s : State) : Result := resetBit 6 (.reg .c) s

/-- RES 6,D (CB B2), R302. -/
def execRes6_D (s : State) : Result := resetBit 6 (.reg .d) s

/-- RES 6,E (CB B3), R302. -/
def execRes6_E (s : State) : Result := resetBit 6 (.reg .e) s

/-- RES 6,H (CB B4), R302. -/
def execRes6_H (s : State) : Result := resetBit 6 (.reg .h) s

/-- RES 6,L (CB B5), R302. -/
def execRes6_L (s : State) : Result := resetBit 6 (.reg .l) s

/-- RES 6,(HL) (CB B6), R302. -/
def execRes6_MHL (s : State) : Result := resetBit 6 .mHL s

/-- RES 6,A (CB B7), R302. -/
def execRes6_A (s : State) : Result := resetBit 6 (.reg .a) s

/-- RES 7,B (CB B8), R302. -/
def execRes7_B (s : State) : Result := resetBit 7 (.reg .b) s

/-- RES 7,C (CB B9), R302. -/
def execRes7_C (s : State) : Result := resetBit 7 (.reg .c) s

/-- RES 7,D (CB BA), R302. -/
def execRes7_D (s : State) : Result := resetBit 7 (.reg .d) s

/-- RES 7,E (CB BB), R302. -/
def execRes7_E (s : State) : Result := resetBit 7 (.reg .e) s

/-- RES 7,H (CB BC), R302. -/
def execRes7_H (s : State) : Result := resetBit 7 (.reg .h) s

/-- RES 7,L (CB BD), R302. -/
def execRes7_L (s : State) : Result := resetBit 7 (.reg .l) s

/-- RES 7,(HL) (CB BE), R302. -/
def execRes7_MHL (s : State) : Result := resetBit 7 .mHL s

/-- RES 7,A (CB BF), R302. -/
def execRes7_A (s : State) : Result := resetBit 7 (.reg .a) s

end Sys2Proof.Machine
end

