-- ==== Sys2Proof/Machine/Control.lean ====
section
/-! DEFINITION. Jumps, calls, returns and restarts (46_control.md R320 to R331). No flag changes. A not-taken
conditional ends with `PC <- pcnext`. -/

namespace Sys2Proof.Machine

/-- `JP a16` (R320). -/
def jumpAbs (a16 : Word) (s : State) : Result := jumpTo a16 s

/-- `JP cc,a16` (R321). -/
def jumpAbsIf (cc : Cond) (a16 : Word) (s : State) : Result := if s.cond cc then jumpTo a16 s else retire 3 s

/-- `JP HL` (R322): the register's value, not memory. -/
def jumpHL (s : State) : Result := jumpTo s.hl s

/-- `JR e8` (R323). -/
def jumpRel (e8 : Byte) (s : State) : Result := jumpTo (s.relTarget e8) s

/-- `JR cc,e8` (R324). -/
def jumpRelIf (cc : Cond) (e8 : Byte) (s : State) : Result :=
  if s.cond cc then jumpTo (s.relTarget e8) s else retire 2 s

/-- Push the return address `pcnext` of an instruction of `len` bytes and jump (R325, R330, R331 items 3, 4). -/
def callTo (len : Nat) (target : Word) (s : State) : Result := jumpTo target (s.push16 (s.pcNext len))

/-- Pop an address and jump (R327). -/
def returnTo (s : State) : Result := jumpTo s.stackTop s.dropTop

/-- `CALL a16` (R325). -/
def callAbs (a16 : Word) (s : State) : Result := callTo 3 a16 s

/-- `CALL cc,a16` (R326). -/
def callAbsIf (cc : Cond) (a16 : Word) (s : State) : Result := if s.cond cc then callTo 3 a16 s else retire 3 s

/-- `RET` (R327). -/
def returnSub (s : State) : Result := returnTo s

/-- `RET cc` (R328). -/
def returnIf (cc : Cond) (s : State) : Result := if s.cond cc then returnTo s else retire 1 s

/-- `RETI` (R329): RET, then IME <- 1. -/
def returnEnable (s : State) : Result := returnTo { s with ime := true }

/-- `RST n` (R330, R123): a one-byte call to `8 * y`. -/
def restart (y : Fin 8) (s : State) : Result := callTo 1 (BitVec.ofNat 16 (8 * y.val)) s

/-- JP a16 (0xC3), R320. -/
def execJp_a16 (a16 : Word) (s : State) : Result := jumpAbs a16 s

/-- JP NZ,a16 (0xC2), R321. -/
def execJpNZ_a16 (a16 : Word) (s : State) : Result := jumpAbsIf .nz a16 s

/-- JP Z,a16 (0xCA), R321. -/
def execJpZ_a16 (a16 : Word) (s : State) : Result := jumpAbsIf .z a16 s

/-- JP NC,a16 (0xD2), R321. -/
def execJpNC_a16 (a16 : Word) (s : State) : Result := jumpAbsIf .nc a16 s

/-- JP C,a16 (0xDA), R321. -/
def execJpC_a16 (a16 : Word) (s : State) : Result := jumpAbsIf .c a16 s

/-- JP HL (0xE9), R322. -/
def execJpHL (s : State) : Result := jumpHL s

/-- JR e8 (0x18), R323. -/
def execJr_e8 (e8 : Byte) (s : State) : Result := jumpRel e8 s

/-- JR NZ,e8 (0x20), R324. -/
def execJrNZ_e8 (e8 : Byte) (s : State) : Result := jumpRelIf .nz e8 s

/-- JR Z,e8 (0x28), R324. -/
def execJrZ_e8 (e8 : Byte) (s : State) : Result := jumpRelIf .z e8 s

/-- JR NC,e8 (0x30), R324. -/
def execJrNC_e8 (e8 : Byte) (s : State) : Result := jumpRelIf .nc e8 s

/-- JR C,e8 (0x38), R324. -/
def execJrC_e8 (e8 : Byte) (s : State) : Result := jumpRelIf .c e8 s

/-- CALL a16 (0xCD), R325. -/
def execCall_a16 (a16 : Word) (s : State) : Result := callAbs a16 s

/-- CALL NZ,a16 (0xC4), R326. -/
def execCallNZ_a16 (a16 : Word) (s : State) : Result := callAbsIf .nz a16 s

/-- CALL Z,a16 (0xCC), R326. -/
def execCallZ_a16 (a16 : Word) (s : State) : Result := callAbsIf .z a16 s

/-- CALL NC,a16 (0xD4), R326. -/
def execCallNC_a16 (a16 : Word) (s : State) : Result := callAbsIf .nc a16 s

/-- CALL C,a16 (0xDC), R326. -/
def execCallC_a16 (a16 : Word) (s : State) : Result := callAbsIf .c a16 s

/-- RET (0xC9), R327. -/
def execRet (s : State) : Result := returnSub s

/-- RET NZ (0xC0), R328. -/
def execRetNZ (s : State) : Result := returnIf .nz s

/-- RET Z (0xC8), R328. -/
def execRetZ (s : State) : Result := returnIf .z s

/-- RET NC (0xD0), R328. -/
def execRetNC (s : State) : Result := returnIf .nc s

/-- RET C (0xD8), R328. -/
def execRetC (s : State) : Result := returnIf .c s

/-- RETI (0xD9), R329. -/
def execReti (s : State) : Result := returnEnable s

/-- RST 0x00 (0xC7), R330. -/
def execRst00 (s : State) : Result := restart 0 s

/-- RST 0x08 (0xCF), R330. -/
def execRst08 (s : State) : Result := restart 1 s

/-- RST 0x10 (0xD7), R330. -/
def execRst10 (s : State) : Result := restart 2 s

/-- RST 0x18 (0xDF), R330. -/
def execRst18 (s : State) : Result := restart 3 s

/-- RST 0x20 (0xE7), R330. -/
def execRst20 (s : State) : Result := restart 4 s

/-- RST 0x28 (0xEF), R330. -/
def execRst28 (s : State) : Result := restart 5 s

/-- RST 0x30 (0xF7), R330. -/
def execRst30 (s : State) : Result := restart 6 s

/-- RST 0x38 (0xFF), R330. -/
def execRst38 (s : State) : Result := restart 7 s

end Sys2Proof.Machine
end

