-- ==== Sys2Proof/Machine/IncDec8.lean ====
section
/-! DEFINITION. The 8-bit increments and decrements (43_incdec8.md R250 to R253): Carry is left unchanged. -/

namespace Sys2Proof.Machine

/-- `INC r` and `INC (HL)` (R250, R251): flags from the value read, also where the router drops the write. -/
def incLoc (x : Loc8) (s : State) : Result :=
  let v := s.getLoc x
  let w := v + 1
  retire 1 ((s.setLoc x w).flags (some (w == 0)) (some false) (some (decide (lowNibble v = 0x0F))) none)

/-- `DEC r` and `DEC (HL)` (R252, R253). -/
def decLoc (x : Loc8) (s : State) : Result :=
  let v := s.getLoc x
  let w := v - 1
  retire 1 ((s.setLoc x w).flags (some (w == 0)) (some true) (some (decide (lowNibble v = 0x00))) none)

/-- INC B (0x04), R250. -/
def execIncB (s : State) : Result := incLoc (.reg .b) s

/-- INC C (0x0C), R250. -/
def execIncC (s : State) : Result := incLoc (.reg .c) s

/-- INC D (0x14), R250. -/
def execIncD (s : State) : Result := incLoc (.reg .d) s

/-- INC E (0x1C), R250. -/
def execIncE (s : State) : Result := incLoc (.reg .e) s

/-- INC H (0x24), R250. -/
def execIncH (s : State) : Result := incLoc (.reg .h) s

/-- INC L (0x2C), R250. -/
def execIncL (s : State) : Result := incLoc (.reg .l) s

/-- INC (HL) (0x34), R251. -/
def execIncMHL (s : State) : Result := incLoc .mHL s

/-- INC A (0x3C), R250. -/
def execIncA (s : State) : Result := incLoc (.reg .a) s

/-- DEC B (0x05), R252. -/
def execDecB (s : State) : Result := decLoc (.reg .b) s

/-- DEC C (0x0D), R252. -/
def execDecC (s : State) : Result := decLoc (.reg .c) s

/-- DEC D (0x15), R252. -/
def execDecD (s : State) : Result := decLoc (.reg .d) s

/-- DEC E (0x1D), R252. -/
def execDecE (s : State) : Result := decLoc (.reg .e) s

/-- DEC H (0x25), R252. -/
def execDecH (s : State) : Result := decLoc (.reg .h) s

/-- DEC L (0x2D), R252. -/
def execDecL (s : State) : Result := decLoc (.reg .l) s

/-- DEC (HL) (0x35), R253. -/
def execDecMHL (s : State) : Result := decLoc .mHL s

/-- DEC A (0x3D), R252. -/
def execDecA (s : State) : Result := decLoc (.reg .a) s

end Sys2Proof.Machine
end

