-- ==== Sys2Proof/Machine/LoadStore.lean ====
section
/-! DEFINITION. Loads, stores and moves (40_load_store.md R139 to R163). Only `LD HL,SP+e8` writes flags. -/

namespace Sys2Proof.Machine

/-- `LD r,r'` (R140). -/
def loadRegReg (dst src : Reg8) (s : State) : Result := retire 1 (s.setReg8 dst (s.getReg8 src))

/-- `LD r,d8` (R141). -/
def loadRegImm (dst : Reg8) (n : Byte) (s : State) : Result := retire 2 (s.setReg8 dst n)

/-- `LD r,(HL)` (R142): the cell is read at the old HL. -/
def loadRegMem (dst : Reg8) (s : State) : Result := retire 1 (s.setReg8 dst (s.readByte s.hl))

/-- `LD (HL),r` (R143). -/
def storeMemReg (src : Reg8) (s : State) : Result := retire 1 (s.writeByte s.hl (s.getReg8 src))

/-- `LD (HL),d8` (R144). -/
def storeMemImm (n : Byte) (s : State) : Result := retire 2 (s.writeByte s.hl n)

/-- `LD A,(BC)`, `LD A,(DE)`, `LD A,(HL+)`, `LD A,(HL-)` (R145, R146, R149, R150). -/
def loadAPtr (m : MemPtr) (s : State) : Result :=
  retire 1 (({ s with a := s.readByte (s.ptrAddr m) } : State).ptrAfter m)

/-- `LD (BC),A`, `LD (DE),A`, `LD (HL+),A`, `LD (HL-),A` (R147, R148, R151, R152): HL moves whether or not the router
stored anything. -/
def storeAPtr (m : MemPtr) (s : State) : Result := retire 1 ((s.writeByte (s.ptrAddr m) s.a).ptrAfter m)

/-- `LDH (a8),A` (R153). -/
def storeAHigh (a8 : Byte) (s : State) : Result := retire 2 (s.writeByte (highPage a8) s.a)

/-- `LDH A,(a8)` (R154). -/
def loadAHigh (a8 : Byte) (s : State) : Result := retire 2 { s with a := s.readByte (highPage a8) }

/-- `LD (C),A` (R155). -/
def storeAHighC (s : State) : Result := retire 1 (s.writeByte (highPage s.c) s.a)

/-- `LD A,(C)` (R156). -/
def loadAHighC (s : State) : Result := retire 1 { s with a := s.readByte (highPage s.c) }

/-- `LD (a16),A` (R157). -/
def storeAAbs (a16 : Word) (s : State) : Result := retire 3 (s.writeByte a16 s.a)

/-- `LD A,(a16)` (R158). -/
def loadAAbs (a16 : Word) (s : State) : Result := retire 3 { s with a := s.readByte a16 }

/-- `LD rr,d16` (R160). -/
def loadPairImm (p : Reg16) (d16 : Word) (s : State) : Result := retire 3 (s.setReg16 p d16)

/-- `LD (a16),SP` (R161): two byte writes, each routed on its own address. -/
def storeSPAbs (a16 : Word) (s : State) : Result := retire 3 (s.writeWord a16 s.sp)

/-- `LD SP,HL` (R162). -/
def loadSPHL (s : State) : Result := retire 1 { s with sp := s.hl }

/-- `LD HL,SP+e8` (R163): Z = N = 0, H and C from the low-byte addition. -/
def loadHLSPOffset (e8 : Byte) (s : State) : Result :=
  let r := spOffset8 s.sp e8
  retire 2 ((s.setHL r.val).flags (some false) (some false) (some r.h) (some r.c))

/-- LD B,B (0x40), R140. -/
def execLdB_B (s : State) : Result := loadRegReg .b .b s

/-- LD B,C (0x41), R140. -/
def execLdB_C (s : State) : Result := loadRegReg .b .c s

/-- LD B,D (0x42), R140. -/
def execLdB_D (s : State) : Result := loadRegReg .b .d s

/-- LD B,E (0x43), R140. -/
def execLdB_E (s : State) : Result := loadRegReg .b .e s

/-- LD B,H (0x44), R140. -/
def execLdB_H (s : State) : Result := loadRegReg .b .h s

/-- LD B,L (0x45), R140. -/
def execLdB_L (s : State) : Result := loadRegReg .b .l s

/-- LD B,A (0x47), R140. -/
def execLdB_A (s : State) : Result := loadRegReg .b .a s

/-- LD C,B (0x48), R140. -/
def execLdC_B (s : State) : Result := loadRegReg .c .b s

/-- LD C,C (0x49), R140. -/
def execLdC_C (s : State) : Result := loadRegReg .c .c s

/-- LD C,D (0x4A), R140. -/
def execLdC_D (s : State) : Result := loadRegReg .c .d s

/-- LD C,E (0x4B), R140. -/
def execLdC_E (s : State) : Result := loadRegReg .c .e s

/-- LD C,H (0x4C), R140. -/
def execLdC_H (s : State) : Result := loadRegReg .c .h s

/-- LD C,L (0x4D), R140. -/
def execLdC_L (s : State) : Result := loadRegReg .c .l s

/-- LD C,A (0x4F), R140. -/
def execLdC_A (s : State) : Result := loadRegReg .c .a s

/-- LD D,B (0x50), R140. -/
def execLdD_B (s : State) : Result := loadRegReg .d .b s

/-- LD D,C (0x51), R140. -/
def execLdD_C (s : State) : Result := loadRegReg .d .c s

/-- LD D,D (0x52), R140. -/
def execLdD_D (s : State) : Result := loadRegReg .d .d s

/-- LD D,E (0x53), R140. -/
def execLdD_E (s : State) : Result := loadRegReg .d .e s

/-- LD D,H (0x54), R140. -/
def execLdD_H (s : State) : Result := loadRegReg .d .h s

/-- LD D,L (0x55), R140. -/
def execLdD_L (s : State) : Result := loadRegReg .d .l s

/-- LD D,A (0x57), R140. -/
def execLdD_A (s : State) : Result := loadRegReg .d .a s

/-- LD E,B (0x58), R140. -/
def execLdE_B (s : State) : Result := loadRegReg .e .b s

/-- LD E,C (0x59), R140. -/
def execLdE_C (s : State) : Result := loadRegReg .e .c s

/-- LD E,D (0x5A), R140. -/
def execLdE_D (s : State) : Result := loadRegReg .e .d s

/-- LD E,E (0x5B), R140. -/
def execLdE_E (s : State) : Result := loadRegReg .e .e s

/-- LD E,H (0x5C), R140. -/
def execLdE_H (s : State) : Result := loadRegReg .e .h s

/-- LD E,L (0x5D), R140. -/
def execLdE_L (s : State) : Result := loadRegReg .e .l s

/-- LD E,A (0x5F), R140. -/
def execLdE_A (s : State) : Result := loadRegReg .e .a s

/-- LD H,B (0x60), R140. -/
def execLdH_B (s : State) : Result := loadRegReg .h .b s

/-- LD H,C (0x61), R140. -/
def execLdH_C (s : State) : Result := loadRegReg .h .c s

/-- LD H,D (0x62), R140. -/
def execLdH_D (s : State) : Result := loadRegReg .h .d s

/-- LD H,E (0x63), R140. -/
def execLdH_E (s : State) : Result := loadRegReg .h .e s

/-- LD H,H (0x64), R140. -/
def execLdH_H (s : State) : Result := loadRegReg .h .h s

/-- LD H,L (0x65), R140. -/
def execLdH_L (s : State) : Result := loadRegReg .h .l s

/-- LD H,A (0x67), R140. -/
def execLdH_A (s : State) : Result := loadRegReg .h .a s

/-- LD L,B (0x68), R140. -/
def execLdL_B (s : State) : Result := loadRegReg .l .b s

/-- LD L,C (0x69), R140. -/
def execLdL_C (s : State) : Result := loadRegReg .l .c s

/-- LD L,D (0x6A), R140. -/
def execLdL_D (s : State) : Result := loadRegReg .l .d s

/-- LD L,E (0x6B), R140. -/
def execLdL_E (s : State) : Result := loadRegReg .l .e s

/-- LD L,H (0x6C), R140. -/
def execLdL_H (s : State) : Result := loadRegReg .l .h s

/-- LD L,L (0x6D), R140. -/
def execLdL_L (s : State) : Result := loadRegReg .l .l s

/-- LD L,A (0x6F), R140. -/
def execLdL_A (s : State) : Result := loadRegReg .l .a s

/-- LD A,B (0x78), R140. -/
def execLdA_B (s : State) : Result := loadRegReg .a .b s

/-- LD A,C (0x79), R140. -/
def execLdA_C (s : State) : Result := loadRegReg .a .c s

/-- LD A,D (0x7A), R140. -/
def execLdA_D (s : State) : Result := loadRegReg .a .d s

/-- LD A,E (0x7B), R140. -/
def execLdA_E (s : State) : Result := loadRegReg .a .e s

/-- LD A,H (0x7C), R140. -/
def execLdA_H (s : State) : Result := loadRegReg .a .h s

/-- LD A,L (0x7D), R140. -/
def execLdA_L (s : State) : Result := loadRegReg .a .l s

/-- LD A,A (0x7F), R140. -/
def execLdA_A (s : State) : Result := loadRegReg .a .a s

/-- LD B,d8 (0x06), R141. -/
def execLdB_d8 (d8 : Byte) (s : State) : Result := loadRegImm .b d8 s

/-- LD C,d8 (0x0E), R141. -/
def execLdC_d8 (d8 : Byte) (s : State) : Result := loadRegImm .c d8 s

/-- LD D,d8 (0x16), R141. -/
def execLdD_d8 (d8 : Byte) (s : State) : Result := loadRegImm .d d8 s

/-- LD E,d8 (0x1E), R141. -/
def execLdE_d8 (d8 : Byte) (s : State) : Result := loadRegImm .e d8 s

/-- LD H,d8 (0x26), R141. -/
def execLdH_d8 (d8 : Byte) (s : State) : Result := loadRegImm .h d8 s

/-- LD L,d8 (0x2E), R141. -/
def execLdL_d8 (d8 : Byte) (s : State) : Result := loadRegImm .l d8 s

/-- LD A,d8 (0x3E), R141. -/
def execLdA_d8 (d8 : Byte) (s : State) : Result := loadRegImm .a d8 s

/-- LD B,(HL) (0x46), R142. -/
def execLdB_MHL (s : State) : Result := loadRegMem .b s

/-- LD C,(HL) (0x4E), R142. -/
def execLdC_MHL (s : State) : Result := loadRegMem .c s

/-- LD D,(HL) (0x56), R142. -/
def execLdD_MHL (s : State) : Result := loadRegMem .d s

/-- LD E,(HL) (0x5E), R142. -/
def execLdE_MHL (s : State) : Result := loadRegMem .e s

/-- LD H,(HL) (0x66), R142. -/
def execLdH_MHL (s : State) : Result := loadRegMem .h s

/-- LD L,(HL) (0x6E), R142. -/
def execLdL_MHL (s : State) : Result := loadRegMem .l s

/-- LD A,(HL) (0x7E), R142. -/
def execLdA_MHL (s : State) : Result := loadRegMem .a s

/-- LD (HL),B (0x70), R143. -/
def execLdMHL_B (s : State) : Result := storeMemReg .b s

/-- LD (HL),C (0x71), R143. -/
def execLdMHL_C (s : State) : Result := storeMemReg .c s

/-- LD (HL),D (0x72), R143. -/
def execLdMHL_D (s : State) : Result := storeMemReg .d s

/-- LD (HL),E (0x73), R143. -/
def execLdMHL_E (s : State) : Result := storeMemReg .e s

/-- LD (HL),H (0x74), R143. -/
def execLdMHL_H (s : State) : Result := storeMemReg .h s

/-- LD (HL),L (0x75), R143. -/
def execLdMHL_L (s : State) : Result := storeMemReg .l s

/-- LD (HL),A (0x77), R143. -/
def execLdMHL_A (s : State) : Result := storeMemReg .a s

/-- LD (HL),d8 (0x36), R144. -/
def execLdMHL_d8 (d8 : Byte) (s : State) : Result := storeMemImm d8 s

/-- LD A,(BC) (0x0A), R145. -/
def execLdA_MBC (s : State) : Result := loadAPtr .bc s

/-- LD A,(DE) (0x1A), R146. -/
def execLdA_MDE (s : State) : Result := loadAPtr .de s

/-- LD A,(HL+) (0x2A), R149. -/
def execLdA_MHLinc (s : State) : Result := loadAPtr .hlInc s

/-- LD A,(HL-) (0x3A), R150. -/
def execLdA_MHLdec (s : State) : Result := loadAPtr .hlDec s

/-- LD (BC),A (0x02), R147. -/
def execLdMBC_A (s : State) : Result := storeAPtr .bc s

/-- LD (DE),A (0x12), R148. -/
def execLdMDE_A (s : State) : Result := storeAPtr .de s

/-- LD (HL+),A (0x22), R151. -/
def execLdMHLinc_A (s : State) : Result := storeAPtr .hlInc s

/-- LD (HL-),A (0x32), R152. -/
def execLdMHLdec_A (s : State) : Result := storeAPtr .hlDec s

/-- LDH (a8),A (0xE0), R153. -/
def execLdhMa8_A (a8 : Byte) (s : State) : Result := storeAHigh a8 s

/-- LDH A,(a8) (0xF0), R154. -/
def execLdhA_Ma8 (a8 : Byte) (s : State) : Result := loadAHigh a8 s

/-- LD (C),A (0xE2), R155. -/
def execLdMC_A (s : State) : Result := storeAHighC s

/-- LD A,(C) (0xF2), R156. -/
def execLdA_MC (s : State) : Result := loadAHighC s

/-- LD (a16),A (0xEA), R157. -/
def execLdMa16_A (a16 : Word) (s : State) : Result := storeAAbs a16 s

/-- LD A,(a16) (0xFA), R158. -/
def execLdA_Ma16 (a16 : Word) (s : State) : Result := loadAAbs a16 s

/-- LD BC,d16 (0x01), R160. -/
def execLdBC_d16 (d16 : Word) (s : State) : Result := loadPairImm .bc d16 s

/-- LD DE,d16 (0x11), R160. -/
def execLdDE_d16 (d16 : Word) (s : State) : Result := loadPairImm .de d16 s

/-- LD HL,d16 (0x21), R160. -/
def execLdHL_d16 (d16 : Word) (s : State) : Result := loadPairImm .hl d16 s

/-- LD SP,d16 (0x31), R160. -/
def execLdSP_d16 (d16 : Word) (s : State) : Result := loadPairImm .sp d16 s

/-- LD (a16),SP (0x08), R161. -/
def execLdMa16_SP (a16 : Word) (s : State) : Result := storeSPAbs a16 s

/-- LD SP,HL (0xF9), R162. -/
def execLdSP_HL (s : State) : Result := loadSPHL s

/-- LD HL,SP+e8 (0xF8), R163. -/
def execLdHL_SPe8 (e8 : Byte) (s : State) : Result := loadHLSPOffset e8 s

end Sys2Proof.Machine
end

