-- ==== Sys2Proof/Machine/RotateShift.lean ====
section
/-! DEFINITION. Rotates, shifts and SWAP (44_rotate_shift.md R260 to R272). -/

namespace Sys2Proof.Machine

/-- An extended-table rotate or shift of a table R8 operand (R264 to R272): Z from the result, N = H = 0. -/
def rotate (o : RotOp) (x : Loc8) (s : State) : Result :=
  let r := rotCompute o (s.getLoc x) s.fC
  retire 2 ((s.setLoc x r.val).flags (some (r.val == 0)) (some false) (some false) (some r.c))

/-- A one-byte rotate of the accumulator (R260 to R263): as the extended form, but Z = 0. -/
def rotateA (o : RotOp) (s : State) : Result :=
  let r := rotCompute o s.a s.fC
  retire 1 (({ s with a := r.val } : State).flags (some false) (some false) (some false) (some r.c))

/-- RLCA (0x07), R260. -/
def execRlca (s : State) : Result := rotateA .rlc s

/-- RRCA (0x0F), R261. -/
def execRrca (s : State) : Result := rotateA .rrc s

/-- RLA (0x17), R262. -/
def execRla (s : State) : Result := rotateA .rl s

/-- RRA (0x1F), R263. -/
def execRra (s : State) : Result := rotateA .rr s

/-- RLC B (CB 00), R264. -/
def execRlc_B (s : State) : Result := rotate .rlc (.reg .b) s

/-- RLC C (CB 01), R264. -/
def execRlc_C (s : State) : Result := rotate .rlc (.reg .c) s

/-- RLC D (CB 02), R264. -/
def execRlc_D (s : State) : Result := rotate .rlc (.reg .d) s

/-- RLC E (CB 03), R264. -/
def execRlc_E (s : State) : Result := rotate .rlc (.reg .e) s

/-- RLC H (CB 04), R264. -/
def execRlc_H (s : State) : Result := rotate .rlc (.reg .h) s

/-- RLC L (CB 05), R264. -/
def execRlc_L (s : State) : Result := rotate .rlc (.reg .l) s

/-- RLC (HL) (CB 06), R264. -/
def execRlc_MHL (s : State) : Result := rotate .rlc .mHL s

/-- RLC A (CB 07), R264. -/
def execRlc_A (s : State) : Result := rotate .rlc (.reg .a) s

/-- RRC B (CB 08), R265. -/
def execRrc_B (s : State) : Result := rotate .rrc (.reg .b) s

/-- RRC C (CB 09), R265. -/
def execRrc_C (s : State) : Result := rotate .rrc (.reg .c) s

/-- RRC D (CB 0A), R265. -/
def execRrc_D (s : State) : Result := rotate .rrc (.reg .d) s

/-- RRC E (CB 0B), R265. -/
def execRrc_E (s : State) : Result := rotate .rrc (.reg .e) s

/-- RRC H (CB 0C), R265. -/
def execRrc_H (s : State) : Result := rotate .rrc (.reg .h) s

/-- RRC L (CB 0D), R265. -/
def execRrc_L (s : State) : Result := rotate .rrc (.reg .l) s

/-- RRC (HL) (CB 0E), R265. -/
def execRrc_MHL (s : State) : Result := rotate .rrc .mHL s

/-- RRC A (CB 0F), R265. -/
def execRrc_A (s : State) : Result := rotate .rrc (.reg .a) s

/-- RL B (CB 10), R266. -/
def execRl_B (s : State) : Result := rotate .rl (.reg .b) s

/-- RL C (CB 11), R266. -/
def execRl_C (s : State) : Result := rotate .rl (.reg .c) s

/-- RL D (CB 12), R266. -/
def execRl_D (s : State) : Result := rotate .rl (.reg .d) s

/-- RL E (CB 13), R266. -/
def execRl_E (s : State) : Result := rotate .rl (.reg .e) s

/-- RL H (CB 14), R266. -/
def execRl_H (s : State) : Result := rotate .rl (.reg .h) s

/-- RL L (CB 15), R266. -/
def execRl_L (s : State) : Result := rotate .rl (.reg .l) s

/-- RL (HL) (CB 16), R266. -/
def execRl_MHL (s : State) : Result := rotate .rl .mHL s

/-- RL A (CB 17), R266. -/
def execRl_A (s : State) : Result := rotate .rl (.reg .a) s

/-- RR B (CB 18), R267. -/
def execRr_B (s : State) : Result := rotate .rr (.reg .b) s

/-- RR C (CB 19), R267. -/
def execRr_C (s : State) : Result := rotate .rr (.reg .c) s

/-- RR D (CB 1A), R267. -/
def execRr_D (s : State) : Result := rotate .rr (.reg .d) s

/-- RR E (CB 1B), R267. -/
def execRr_E (s : State) : Result := rotate .rr (.reg .e) s

/-- RR H (CB 1C), R267. -/
def execRr_H (s : State) : Result := rotate .rr (.reg .h) s

/-- RR L (CB 1D), R267. -/
def execRr_L (s : State) : Result := rotate .rr (.reg .l) s

/-- RR (HL) (CB 1E), R267. -/
def execRr_MHL (s : State) : Result := rotate .rr .mHL s

/-- RR A (CB 1F), R267. -/
def execRr_A (s : State) : Result := rotate .rr (.reg .a) s

/-- SLA B (CB 20), R268. -/
def execSlaB (s : State) : Result := rotate .sla (.reg .b) s

/-- SLA C (CB 21), R268. -/
def execSlaC (s : State) : Result := rotate .sla (.reg .c) s

/-- SLA D (CB 22), R268. -/
def execSlaD (s : State) : Result := rotate .sla (.reg .d) s

/-- SLA E (CB 23), R268. -/
def execSlaE (s : State) : Result := rotate .sla (.reg .e) s

/-- SLA H (CB 24), R268. -/
def execSlaH (s : State) : Result := rotate .sla (.reg .h) s

/-- SLA L (CB 25), R268. -/
def execSlaL (s : State) : Result := rotate .sla (.reg .l) s

/-- SLA (HL) (CB 26), R268. -/
def execSlaMHL (s : State) : Result := rotate .sla .mHL s

/-- SLA A (CB 27), R268. -/
def execSlaA (s : State) : Result := rotate .sla (.reg .a) s

/-- SRA B (CB 28), R269. -/
def execSraB (s : State) : Result := rotate .sra (.reg .b) s

/-- SRA C (CB 29), R269. -/
def execSraC (s : State) : Result := rotate .sra (.reg .c) s

/-- SRA D (CB 2A), R269. -/
def execSraD (s : State) : Result := rotate .sra (.reg .d) s

/-- SRA E (CB 2B), R269. -/
def execSraE (s : State) : Result := rotate .sra (.reg .e) s

/-- SRA H (CB 2C), R269. -/
def execSraH (s : State) : Result := rotate .sra (.reg .h) s

/-- SRA L (CB 2D), R269. -/
def execSraL (s : State) : Result := rotate .sra (.reg .l) s

/-- SRA (HL) (CB 2E), R269. -/
def execSraMHL (s : State) : Result := rotate .sra .mHL s

/-- SRA A (CB 2F), R269. -/
def execSraA (s : State) : Result := rotate .sra (.reg .a) s

/-- SWAP B (CB 30), R270. -/
def execSwapB (s : State) : Result := rotate .swap (.reg .b) s

/-- SWAP C (CB 31), R270. -/
def execSwapC (s : State) : Result := rotate .swap (.reg .c) s

/-- SWAP D (CB 32), R270. -/
def execSwapD (s : State) : Result := rotate .swap (.reg .d) s

/-- SWAP E (CB 33), R270. -/
def execSwapE (s : State) : Result := rotate .swap (.reg .e) s

/-- SWAP H (CB 34), R270. -/
def execSwapH (s : State) : Result := rotate .swap (.reg .h) s

/-- SWAP L (CB 35), R270. -/
def execSwapL (s : State) : Result := rotate .swap (.reg .l) s

/-- SWAP (HL) (CB 36), R270. -/
def execSwapMHL (s : State) : Result := rotate .swap .mHL s

/-- SWAP A (CB 37), R270. -/
def execSwapA (s : State) : Result := rotate .swap (.reg .a) s

/-- SRL B (CB 38), R271. -/
def execSrlB (s : State) : Result := rotate .srl (.reg .b) s

/-- SRL C (CB 39), R271. -/
def execSrlC (s : State) : Result := rotate .srl (.reg .c) s

/-- SRL D (CB 3A), R271. -/
def execSrlD (s : State) : Result := rotate .srl (.reg .d) s

/-- SRL E (CB 3B), R271. -/
def execSrlE (s : State) : Result := rotate .srl (.reg .e) s

/-- SRL H (CB 3C), R271. -/
def execSrlH (s : State) : Result := rotate .srl (.reg .h) s

/-- SRL L (CB 3D), R271. -/
def execSrlL (s : State) : Result := rotate .srl (.reg .l) s

/-- SRL (HL) (CB 3E), R271. -/
def execSrlMHL (s : State) : Result := rotate .srl .mHL s

/-- SRL A (CB 3F), R271. -/
def execSrlA (s : State) : Result := rotate .srl (.reg .a) s

end Sys2Proof.Machine
end

