-- ==== Sys2Proof/Machine/Misc.lean ====
section
/-! DEFINITION. NOP, HALT, STOP, carry and accumulator operations, DAA, DI, EI, the undefined opcodes and the prefix
(48_misc.md R360 to R371). -/

namespace Sys2Proof.Machine

/-- `NOP` (R360). -/
def noOperation (s : State) : Result := retire 1 s

/-- `HALT` (R361): HALTED <- 1 and PC advances by 1. -/
def haltEngine (s : State) : Result := retire 1 { s with halted := true }

/-- `STOP` (R363): with the pad byte 0x00 nothing changes but PC; any other pad byte raises Unimplemented(0x10, pc0). -/
def stopForm (pad : Byte) (s : State) : Result := if pad = 0x00 then retire 2 s else raiseUnimplemented 0x10 s

/-- `SCF` (R364). -/
def setCarry (s : State) : Result := retire 1 (s.flags none (some false) (some false) (some true))

/-- `CCF` (R365). -/
def complementCarry (s : State) : Result := retire 1 (s.flags none (some false) (some false) (some !s.fC))

/-- `CPL` (R366). -/
def complementA (s : State) : Result :=
  retire 1 (({ s with a := ~~~s.a } : State).flags none (some true) (some true) none)

/-- `DAA` (R367): Z from the new A, N unchanged, H = 0. -/
def decimalAdjust (s : State) : Result :=
  let r := daaCompute s.a s.fN s.fH s.fC
  retire 1 (({ s with a := r.val } : State).flags (some (r.val == 0)) none (some false) (some r.c))

/-- `DI` and `EI` (R368, R369): IME is written in this step. -/
def writeIME (v : Bool) (s : State) : Result := retire 1 { s with ime := v }

/-- One of the eleven opcodes that select no instruction (R370). -/
def undefinedOpcode (op : Byte) (s : State) : Result := raiseUnimplemented op s

/-- The row PREFIX CB (R371): it has no effect of its own; the byte at `(pc0 + 1) & 0xFFFF` selects the extended
operation (R117), and the two bytes together are the instruction. `decode` never answers this row (log entry 6). -/
def extendedPrefix (s : State) : Result :=
  let op2 := s.readByte (s.pc + 1)
  if fieldX op2 = 0 then rotate (rotTable (fieldY op2)) (r8 (fieldZ op2)) s
  else if fieldX op2 = 1 then testBit (fieldY op2) (r8 (fieldZ op2)) s
  else if fieldX op2 = 2 then resetBit (fieldY op2) (r8 (fieldZ op2)) s
  else setBit (fieldY op2) (r8 (fieldZ op2)) s

/-- NOP (0x00), R360. -/
def execNop (s : State) : Result := noOperation s

/-- HALT (0x76), R361. -/
def execHalt (s : State) : Result := haltEngine s

/-- STOP (0x10), R363. -/
def execStop (pad : Byte) (s : State) : Result := stopForm pad s

/-- SCF (0x37), R364. -/
def execScf (s : State) : Result := setCarry s

/-- CCF (0x3F), R365. -/
def execCcf (s : State) : Result := complementCarry s

/-- CPL (0x2F), R366. -/
def execCpl (s : State) : Result := complementA s

/-- DAA (0x27), R367. -/
def execDaa (s : State) : Result := decimalAdjust s

/-- DI (0xF3), R368. -/
def execDi (s : State) : Result := writeIME false s

/-- EI (0xFB), R369. -/
def execEi (s : State) : Result := writeIME true s

/-- ILLEGAL_D3 (0xD3), R370. -/
def execIllegalD3 (s : State) : Result := undefinedOpcode 0xD3 s

/-- ILLEGAL_DB (0xDB), R370. -/
def execIllegalDB (s : State) : Result := undefinedOpcode 0xDB s

/-- ILLEGAL_DD (0xDD), R370. -/
def execIllegalDD (s : State) : Result := undefinedOpcode 0xDD s

/-- ILLEGAL_E3 (0xE3), R370. -/
def execIllegalE3 (s : State) : Result := undefinedOpcode 0xE3 s

/-- ILLEGAL_E4 (0xE4), R370. -/
def execIllegalE4 (s : State) : Result := undefinedOpcode 0xE4 s

/-- ILLEGAL_EB (0xEB), R370. -/
def execIllegalEB (s : State) : Result := undefinedOpcode 0xEB s

/-- ILLEGAL_EC (0xEC), R370. -/
def execIllegalEC (s : State) : Result := undefinedOpcode 0xEC s

/-- ILLEGAL_ED (0xED), R370. -/
def execIllegalED (s : State) : Result := undefinedOpcode 0xED s

/-- ILLEGAL_F4 (0xF4), R370. -/
def execIllegalF4 (s : State) : Result := undefinedOpcode 0xF4 s

/-- ILLEGAL_FC (0xFC), R370. -/
def execIllegalFC (s : State) : Result := undefinedOpcode 0xFC s

/-- ILLEGAL_FD (0xFD), R370. -/
def execIllegalFD (s : State) : Result := undefinedOpcode 0xFD s

/-- PREFIX CB (0xCB), R371. -/
def execPrefixCB (s : State) : Result := extendedPrefix s

end Sys2Proof.Machine
end

