-- ==== Sys2Proof/Machine/Stack.lean ====
section
/-! DEFINITION. PUSH and POP (47_stack.md R350 to R356). -/

namespace Sys2Proof.Machine

/-- `PUSH rr` (R350). -/
def pushPair (p : RegStk) (s : State) : Result := retire 1 (s.push16 (s.getStk p))

/-- `POP rr` (R351) and `POP AF`, which keeps bits 3..0 of F at 0 (R352). -/
def popPair (p : RegStk) (s : State) : Result := retire 1 (s.dropTop.setStk p s.stackTop)

/-- PUSH BC (0xC5), R350. -/
def execPushBC (s : State) : Result := pushPair .bc s

/-- PUSH DE (0xD5), R350. -/
def execPushDE (s : State) : Result := pushPair .de s

/-- PUSH HL (0xE5), R350. -/
def execPushHL (s : State) : Result := pushPair .hl s

/-- PUSH AF (0xF5), R350. -/
def execPushAF (s : State) : Result := pushPair .af s

/-- POP BC (0xC1), R351. -/
def execPopBC (s : State) : Result := popPair .bc s

/-- POP DE (0xD1), R351. -/
def execPopDE (s : State) : Result := popPair .de s

/-- POP HL (0xE1), R351. -/
def execPopHL (s : State) : Result := popPair .hl s

/-- POP AF (0xF1), R352. -/
def execPopAF (s : State) : Result := popPair .af s

end Sys2Proof.Machine
end

