-- ==== Sys2Proof/Machine/Step.lean ====
section
/-! DEFINITION. One step (30_encoding.md R110; 00_scope.md R5), and how the host places an instruction for it. -/

namespace Sys2Proof.Machine

/-- One step: with HALTED = 1 an Idle step, which changes nothing (R362); otherwise the instruction at PC. -/
def step (s : State) : Host.Outcome State Fault Refusal :=
  if s.halted then .next s else exec s.fetch s

/-- The state with the instruction of a table word where `step` fetches: at PC, in the cell the fetch reads, and
HALTED cleared so that the next step fetches (log entry 4). -/
def State.withFetchWord (s : State) (nbits w : Nat) : State := s.loadAtPC (tableBytes nbits w)

end Sys2Proof.Machine
end

