-- ==== Sys2Proof/Machine/HostOps.lean ====
section
/-! DEFINITION. The host operations of 00_scope.md R6 and 70_reset_and_hazards.md section 3, which happen only between
steps (R447): RESET, FORCEPC, ROMBANK, RAMBANK, WAKE, SNAPSHOT, MEMVIEW. STEP is `step`. -/

namespace Sys2Proof.Machine

/-- The arguments of RESET (R440). The image is the bytes the host presents, empty when it is missing; GM_INIT and
XRAM_INIT are given by the cells that differ from `Config.unlistedByte`. -/
structure ResetParams where
  image : List Byte
  romBanks : Nat
  ramBanks : Nat
  af : Word
  bc : Word
  de : Word
  hl : Word
  ioDefaults : List Host.Cell
  gmInit : List Host.Cell
  xramInit : List Host.Cell
deriving DecidableEq, Repr

/-- Why a host operation is not performed. -/
inductive HostRefusal
  /-- the image is missing or not ROM_BANKS * 0x4000 bytes with ROM_BANKS at least 2 (R407, R441) -/
  | malformedImage
  /-- a RESET argument outside the domain R7 gives it: RAM_BANKS below 1, or an initial cell outside its array
  (log entry 13) -/
  | badParameter
  /-- ROMBANK(n) with n ≥ ROM_BANKS, RAMBANK(n) with n ≥ RAM_BANKS (R449) -/
  | bankOutOfRange
deriving DecidableEq, Repr

/-- What a host operation answers: the new state, or a refusal, which leaves the state as it was (R449) or undefined
(R407). -/
abbrev HostResult := Except HostRefusal State

/-- R441: the image is `ROM_BANKS * 0x4000` bytes for a natural number ROM_BANKS ≥ 2. No header is examined. -/
def ResetParams.imageValid (p : ResetParams) : Bool :=
  decide (2 ≤ p.romBanks) && p.image.length == p.romBanks * Config.romBankSize

/-- The domains of the other parameters (R7, R35, R36). -/
def ResetParams.inDomain (p : ResetParams) : Bool :=
  decide (1 ≤ p.ramBanks) && Memory.within p.ioDefaults Config.addressSpaceSize &&
  Memory.within p.gmInit Config.addressSpaceSize && Memory.within p.xramInit (p.ramBanks * Config.ramBankSize)

/-- Steps 2 to 8 of RESET (R440). -/
def ResetParams.start (p : ResetParams) : State where
  a := hiByte p.af
  f := loByte p.af &&& 0xF0
  b := hiByte p.bc
  c := loByte p.bc
  d := hiByte p.de
  e := loByte p.de
  h := hiByte p.hl
  l := loByte p.hl
  pc := Config.resetPC
  sp := Config.resetSP
  ime := false
  halted := false
  romb := Config.resetRomb
  ramb := Config.resetRamb
  romBanks := p.romBanks
  ramBanks := p.ramBanks
  cart := Memory.ofBytes 0 p.image
  xram := Memory.overlay [] p.xramInit
  gm := Memory.overlay (Memory.overlay [] p.gmInit) p.ioDefaults

/-- RESET (R440 to R442): refused on a malformed image; otherwise every state element at its reset value. It does not
depend on the state before: "no state survives reset". -/
def hostReset (p : ResetParams) : HostResult :=
  if !p.imageValid then .error .malformedImage
  else if !p.inDomain then .error .badParameter
  else .ok p.start

/-- FORCEPC(a) (R448): nothing but PC changes. -/
def forcePC (addr : Word) (s : State) : State := { s with pc := addr }

/-- ROMBANK(n) (R449). -/
def selectRomBank (n : Nat) (s : State) : HostResult :=
  if n < s.romBanks then .ok { s with romb := n } else .error .bankOutOfRange

/-- RAMBANK(n) (R449). -/
def selectRamBank (n : Nat) (s : State) : HostResult :=
  if n < s.ramBanks then .ok { s with ramb := n } else .error .bankOutOfRange

/-- WAKE (R450). -/
def wake (s : State) : State := { s with halted := false }

/-- What SNAPSHOT returns (R451). -/
structure Snapshot where
  af : Word
  bc : Word
  de : Word
  hl : Word
  pc : Word
  sp : Word
  z : Bool
  n : Bool
  h : Bool
  c : Bool
  ime : Bool
  halted : Bool
deriving DecidableEq, Repr

/-- SNAPSHOT (R451): a copy; it changes no state. -/
def snapshot (s : State) : Snapshot where
  af := s.af
  bc := s.bc
  de := s.de
  hl := s.hl
  pc := s.pc
  sp := s.sp
  z := s.fZ
  n := s.fN
  h := s.fH
  c := s.fC
  ime := s.ime
  halted := s.halted

/-- MEMVIEW(a) (R452): `ReadByte(a)`. -/
def memView (s : State) (addr : Word) : Byte := s.readByte addr

/-- The arguments with which RESET gives `State.reset`: Config.lean's parameters and an all-zero image. -/
def ResetParams.default : ResetParams where
  image := List.replicate (Config.romBanks * Config.romBankSize) Config.unlistedByte
  romBanks := Config.romBanks
  ramBanks := Config.ramBanks
  af := Config.resetAF
  bc := Config.resetBC
  de := Config.resetDE
  hl := Config.resetHL
  ioDefaults := []
  gmInit := []
  xramInit := []

end Sys2Proof.Machine
end

