-- ==== Sys2Proof/Machine/Report.lean ====
section
/-! DEFINITION. What a step reports and does not keep: its StepResult with the cycle count (00_scope.md R5;
70_reset_and_hazards.md R446, R460; CYC with its default table), and the DIAG events of its dropped writes
(20_memory.md R75). Outputs, not state (R37): no meaning reads any of this (log entry 9). -/

namespace Sys2Proof.Machine

/-! ### The default table CYC (R460): the cycle values of section 6.1 and 6.2 of 30_encoding.md -/

/-- The base map's cycles (section 6.1), row by row; `none` for the cells that never retire. -/
def baseCycles : List (List (Option (Nat × Nat))) :=
  [[some (4, 4), some (12, 12), some (8, 8), some (8, 8), some (4, 4), some (4, 4), some (8, 8), some (4, 4),
    some (20, 20), some (8, 8), some (8, 8), some (8, 8), some (4, 4), some (4, 4), some (8, 8), some (4, 4)],
   [some (4, 4), some (12, 12), some (8, 8), some (8, 8), some (4, 4), some (4, 4), some (8, 8), some (4, 4),
    some (12, 12), some (8, 8), some (8, 8), some (8, 8), some (4, 4), some (4, 4), some (8, 8), some (4, 4)],
   [some (12, 8), some (12, 12), some (8, 8), some (8, 8), some (4, 4), some (4, 4), some (8, 8), some (4, 4),
    some (12, 8), some (8, 8), some (8, 8), some (8, 8), some (4, 4), some (4, 4), some (8, 8), some (4, 4)],
   [some (12, 8), some (12, 12), some (8, 8), some (8, 8), some (12, 12), some (12, 12), some (12, 12), some (4, 4),
    some (12, 8), some (8, 8), some (8, 8), some (8, 8), some (4, 4), some (4, 4), some (8, 8), some (4, 4)],
   [some (4, 4), some (4, 4), some (4, 4), some (4, 4), some (4, 4), some (4, 4), some (8, 8), some (4, 4),
    some (4, 4), some (4, 4), some (4, 4), some (4, 4), some (4, 4), some (4, 4), some (8, 8), some (4, 4)],
   [some (4, 4), some (4, 4), some (4, 4), some (4, 4), some (4, 4), some (4, 4), some (8, 8), some (4, 4),
    some (4, 4), some (4, 4), some (4, 4), some (4, 4), some (4, 4), some (4, 4), some (8, 8), some (4, 4)],
   [some (4, 4), some (4, 4), some (4, 4), some (4, 4), some (4, 4), some (4, 4), some (8, 8), some (4, 4),
    some (4, 4), some (4, 4), some (4, 4), some (4, 4), some (4, 4), some (4, 4), some (8, 8), some (4, 4)],
   [some (8, 8), some (8, 8), some (8, 8), some (8, 8), some (8, 8), some (8, 8), some (4, 4), some (8, 8),
    some (4, 4), some (4, 4), some (4, 4), some (4, 4), some (4, 4), some (4, 4), some (8, 8), some (4, 4)],
   [some (4, 4), some (4, 4), some (4, 4), some (4, 4), some (4, 4), some (4, 4), some (8, 8), some (4, 4),
    some (4, 4), some (4, 4), some (4, 4), some (4, 4), some (4, 4), some (4, 4), some (8, 8), some (4, 4)],
   [some (4, 4), some (4, 4), some (4, 4), some (4, 4), some (4, 4), some (4, 4), some (8, 8), some (4, 4),
    some (4, 4), some (4, 4), some (4, 4), some (4, 4), some (4, 4), some (4, 4), some (8, 8), some (4, 4)],
   [some (4, 4), some (4, 4), some (4, 4), some (4, 4), some (4, 4), some (4, 4), some (8, 8), some (4, 4),
    some (4, 4), some (4, 4), some (4, 4), some (4, 4), some (4, 4), some (4, 4), some (8, 8), some (4, 4)],
   [some (4, 4), some (4, 4), some (4, 4), some (4, 4), some (4, 4), some (4, 4), some (8, 8), some (4, 4),
    some (4, 4), some (4, 4), some (4, 4), some (4, 4), some (4, 4), some (4, 4), some (8, 8), some (4, 4)],
   [some (20, 8), some (12, 12), some (16, 12), some (16, 16), some (24, 12), some (16, 16), some (8, 8), some (16, 16),
    some (20, 8), some (16, 16), some (16, 12), none, some (24, 12), some (24, 24), some (8, 8), some (16, 16)],
   [some (20, 8), some (12, 12), some (16, 12), none, some (24, 12), some (16, 16), some (8, 8), some (16, 16),
    some (20, 8), some (16, 16), some (16, 12), none, some (24, 12), none, some (8, 8), some (16, 16)],
   [some (12, 12), some (12, 12), some (8, 8), none, none, some (16, 16), some (8, 8), some (16, 16),
    some (16, 16), some (4, 4), some (16, 16), none, none, none, some (8, 8), some (16, 16)],
   [some (12, 12), some (12, 12), some (8, 8), some (4, 4), none, some (16, 16), some (8, 8), some (16, 16),
    some (12, 12), some (8, 8), some (16, 16), some (4, 4), none, none, some (8, 8), some (16, 16)]]

/-- The extended map's cycles (section 6.2), row by row. -/
def extCycles : List (List Nat) :=
  [[8, 8, 8, 8, 8, 8, 16, 8, 8, 8, 8, 8, 8, 8, 16, 8],
   [8, 8, 8, 8, 8, 8, 16, 8, 8, 8, 8, 8, 8, 8, 16, 8],
   [8, 8, 8, 8, 8, 8, 16, 8, 8, 8, 8, 8, 8, 8, 16, 8],
   [8, 8, 8, 8, 8, 8, 16, 8, 8, 8, 8, 8, 8, 8, 16, 8],
   [8, 8, 8, 8, 8, 8, 12, 8, 8, 8, 8, 8, 8, 8, 12, 8],
   [8, 8, 8, 8, 8, 8, 12, 8, 8, 8, 8, 8, 8, 8, 12, 8],
   [8, 8, 8, 8, 8, 8, 12, 8, 8, 8, 8, 8, 8, 8, 12, 8],
   [8, 8, 8, 8, 8, 8, 12, 8, 8, 8, 8, 8, 8, 8, 12, 8],
   [8, 8, 8, 8, 8, 8, 16, 8, 8, 8, 8, 8, 8, 8, 16, 8],
   [8, 8, 8, 8, 8, 8, 16, 8, 8, 8, 8, 8, 8, 8, 16, 8],
   [8, 8, 8, 8, 8, 8, 16, 8, 8, 8, 8, 8, 8, 8, 16, 8],
   [8, 8, 8, 8, 8, 8, 16, 8, 8, 8, 8, 8, 8, 8, 16, 8],
   [8, 8, 8, 8, 8, 8, 16, 8, 8, 8, 8, 8, 8, 8, 16, 8],
   [8, 8, 8, 8, 8, 8, 16, 8, 8, 8, 8, 8, 8, 8, 16, 8],
   [8, 8, 8, 8, 8, 8, 16, 8, 8, 8, 8, 8, 8, 8, 16, 8],
   [8, 8, 8, 8, 8, 8, 16, 8, 8, 8, 8, 8, 8, 8, 16, 8]]

/-- `CYC[instr]` as (taken, not taken), equal where the row has one value; `none` for a row that never retires. -/
def cyclePair (i : Instr) : Option (Nat × Nat) :=
  match i.encode with
  | [] => none
  | b0 :: rest =>
    if b0 = 0xCB then
      match rest with
      | [] => none
      | op2 :: _ => ((extCycles[op2.toNat / 16]?).bind fun row => row[op2.toNat % 16]?).map fun n => (n, n)
    else ((baseCycles[b0.toNat / 16]?).bind fun row => row[b0.toNat % 16]?).join

/-- The form a step that executes `i` at `s` runs: the instruction's own, and for the prefix row that of the extended
instruction the byte at PC+1 selects (R371). -/
def runForm (i : Instr) (s : State) : Form :=
  match i.form with
  | .prefixCB => extForm (s.readByte (s.pc + 1))
  | g => g

/-- Whether a conditional control transfer is taken; every other form counts as taken (R460). -/
def formTaken (g : Form) (s : State) : Bool :=
  match g with
  | .jpCc cc _ => s.cond cc
  | .jrCc cc _ => s.cond cc
  | .callCc cc _ => s.cond cc
  | .retCc cc => s.cond cc
  | _ => true
@[inherit_doc formTaken] def taken (i : Instr) (s : State) : Bool := formTaken i.form s

/-- `CYC[instr, taken?]` of a step that executes `i` (R110, R460); 0 for a row that never retires. The prefix row's
count is that of the extended instruction it introduces: it "already includes the prefix" (R371). -/
def cyclesOf (i : Instr) (s : State) : Nat :=
  let j := if i = .prefixCB then extInstr (s.readByte (s.pc + 1)) else i
  match cyclePair j with
  | some (t, n) => if taken j s then t else n
  | none => 0

/-- RESULT (R5, R6). -/
inductive StepResult
  /-- an instruction completed -/
  | retired (cycles : Nat)
  /-- HALTED was 1; nothing executed (R362) -/
  | idle (cycles : Nat)
  /-- the Unimplemented signal (R400); no cycle count goes with it -/
  | unimplemented (opcode : Byte) (pc : Word)
deriving DecidableEq, Repr

/-- The two causes of the Unimplemented signal and the opcode each reports (R400). -/
def unimplementedCause (i : Instr) : Option Byte :=
  match i.form with
  | .illegal op => some op
  | .stop pad => if pad = 0x00 then none else some 0x10
  | _ => none

/-- The StepResult of a step from `s` (R5, R110, R446). -/
def stepResult (s : State) : StepResult :=
  if s.halted then .idle Config.haltIdleCycles
  else match unimplementedCause s.fetch with
    | some op => .unimplemented op s.pc
    | none => .retired (cyclesOf s.fetch s)

/-! ### The writes a step presents to the router, and DIAG -/

/-- The two byte writes of `push16(w)` (R353), in order. -/
def pushWrites (s : State) (w : Word) : List (Word × Byte) := [(s.sp - 1, hiByte w), (s.sp - 2, loByte w)]

/-- The write of a result to a table R8 operand: none for a register half. -/
def locWrites (s : State) (x : Loc8) (v : Byte) : List (Word × Byte) :=
  match x with
  | .reg _ => []
  | .mHL => [(s.hl, v)]

/-- The byte writes an instruction of a form presents to the router, in order (R78, R85, and the rule of each form). -/
def formWrites (g : Form) (s : State) : List (Word × Byte) :=
  match g with
  | .ldMR r => [(s.hl, s.getReg8 r)]
  | .ldMN n => [(s.hl, n)]
  | .ldATo m => [(s.ptrAddr m, s.a)]
  | .ldhTo a8 => [(highPage a8, s.a)]
  | .ldCTo => [(highPage s.c, s.a)]
  | .ldAbsTo a16 => [(a16, s.a)]
  | .ldAbsSP a16 => [(a16, loByte s.sp), (a16 + 1, hiByte s.sp)]
  | .inc8 x => locWrites s x (s.getLoc x + 1)
  | .dec8 x => locWrites s x (s.getLoc x - 1)
  | .rot o x => locWrites s x (rotCompute o (s.getLoc x) s.fC).val
  | .set b x => locWrites s x (s.getLoc x ||| bitMask b)
  | .res b x => locWrites s x (s.getLoc x &&& ~~~(bitMask b))
  | .call _ => pushWrites s (s.pcNext 3)
  | .callCc cc _ => if s.cond cc then pushWrites s (s.pcNext 3) else []
  | .rst _ => pushWrites s (s.pcNext 1)
  | .push p => pushWrites s (s.getStk p)
  | .nop | .halt | .di | .ei | .scf | .ccf | .cpl | .daa | .rlca | .rrca | .rla | .rra | .stop _ => []
  | .ldRR _ _ | .ldRN _ _ | .ldRM _ | .ldAFrom _ | .ldhFrom _ | .ldCFrom | .ldAbsFrom _ => []
  | .ldPair _ _ | .ldSPHL | .ldHLSP _ | .alu _ _ | .addHL _ | .addSP _ | .incPair _ | .decPair _ | .bit _ _ => []
  | .jp _ | .jpCc _ _ | .jpHL | .jr _ | .jrCc _ _ | .ret | .retCc _ | .reti | .pop _ | .illegal _ | .prefixCB => []

/-- The byte writes that executing `i` at `s` presents to the router, in order. -/
def presentedWrites (i : Instr) (s : State) : List (Word × Byte) := formWrites (runForm i s) s

/-- The kinds of DIAG event (R6, R75). Dropped writes of the protected range are the only one: ROM writes are silent,
and addresses outside the 16 bits, which the source also reports, cannot be formed (R74). -/
inductive DiagKind
  | protectedRange
deriving DecidableEq, Repr

/-- The payload `(kind, address, value)` of a DIAG event (R6). -/
structure DiagEvent where
  kind : DiagKind
  addr : Word
  value : Byte
deriving DecidableEq, Repr

/-- The DIAG events of a step, with DIAG_ENABLED as an argument (R7, R75): `(protected, a, v)` for each write of `v`
presented at an `a` in 0xFEA0 to 0xFEFF. -/
def diagEvents (enabled : Bool) (s : State) : List DiagEvent :=
  if !enabled || s.halted then []
  else ((presentedWrites s.fetch s).filter fun w => decide (0xFEA0 ≤ w.1.toNat ∧ w.1.toNat ≤ 0xFEFF)).map
    fun w => { kind := .protectedRange, addr := w.1, value := w.2 }

end Sys2Proof.Machine
end

