-- ==== Sys2Proof/Safety.lean ====
section
/-! DEFINITION. What claims mean by a legal state and a safe step: the invariants the spec states (10_state.md R25,
R30, R31; 00_scope.md R7) with the canonical form of the storage arrays, and the steps that do not stop. -/

namespace Sys2Proof.Machine

/-- The invariants of R25, R30, R31 and R7, and the canonical form and extent of CART, XRAM and GM (R34 to R36). -/
structure State.Inv (s : State) : Prop where
  /-- "bits 3..0 of AF.lo are always 0" (R25) -/
  flagsLow : s.f &&& 0x0F = 0
  /-- 0 <= ROMB < ROM_BANKS (R30) -/
  rombBound : s.romb < s.romBanks
  /-- 0 <= RAMB < RAM_BANKS (R31) -/
  rambBound : s.ramb < s.ramBanks
  /-- ROM_BANKS is at least 2 (R7) -/
  romBanksMin : 2 ≤ s.romBanks
  /-- CART's canonical form and extent (R34) -/
  cartWf : s.cart.wf = true
  cartWithin : s.cart.within (s.romBanks * Config.romBankSize) = true
  /-- XRAM's canonical form and extent (R35) -/
  xramWf : s.xram.wf = true
  xramWithin : s.xram.within (s.ramBanks * Config.ramBankSize) = true
  /-- GM's canonical form and extent (R36) -/
  gmWf : s.gm.wf = true
  gmWithin : s.gm.within Config.addressSpaceSize = true

/-- The step from `s` does not stop: it retires an instruction or idles. -/
def State.Runs (s : State) : Prop := ∃ t, step s = .next t

/-- A transition between two states the host sees: a step that answers a next state, or a host operation that is
performed (R446 to R450; RESET starts over and is not among them). -/
inductive Transition (s : State) : State → Prop
  | step (t : State) (ran : step s = .next t) : Transition s t
  | forcePC (addr : Word) : Transition s (forcePC addr s)
  | romBank (n : Nat) (t : State) (ok : selectRomBank n s = .ok t) : Transition s t
  | ramBank (n : Nat) (t : State) (ok : selectRamBank n s = .ok t) : Transition s t
  | wake : Transition s (wake s)

/-- The states the host can reach from a successful RESET. -/
inductive Reachable : State → Prop
  | reset (p : ResetParams) (s : State) (ok : hostReset p = .ok s) : Reachable s
  | next (s t : State) (before : Reachable s) (move : Transition s t) : Reachable t

end Sys2Proof.Machine

namespace Sys2Proof.Claims

open Sys2Proof.Machine

/-! ### The spec's tables that claims are stated with -/

/-- The eleven base opcodes that select no instruction (R118, R370). -/
def holes : List Byte := [0xD3, 0xDB, 0xDD, 0xE3, 0xE4, 0xEB, 0xEC, 0xED, 0xF4, 0xFC, 0xFD]

/-- An address whose cell a presented write changes: not ROM and not the protected range (R60, R71). -/
abbrev Writable (addr : Word) : Prop := 0x8000 ≤ addr.toNat ∧ ¬(0xFEA0 ≤ addr.toNat ∧ addr.toNat ≤ 0xFEFF)

/-- A column entry of the flag table R27: `-`, `0`, `1`, or computed by the instruction's rule (`Z`, `*`). -/
inductive FlagUse
  | keep | zero | one | computed
deriving DecidableEq, Repr

/-- What a column entry says of a flag before and after. -/
def FlagUse.holds : FlagUse → Bool → Bool → Prop
  | .keep, before, after => after = before
  | .zero, _, after => after = false
  | .one, _, after => after = true
  | .computed, _, _ => True

/-- The Z, N, H and C columns of R27. -/
structure FlagRow where
  z : FlagUse
  n : FlagUse
  h : FlagUse
  c : FlagUse
deriving DecidableEq, Repr

/-- The rows of R27. -/
def flagRow : Form → FlagRow
  | .alu .add _ | .alu .adc _ => ⟨.computed, .zero, .computed, .computed⟩
  | .alu .sub _ | .alu .sbc _ | .alu .cp _ => ⟨.computed, .one, .computed, .computed⟩
  | .alu .and _ => ⟨.computed, .zero, .one, .zero⟩
  | .alu .xor _ | .alu .or _ => ⟨.computed, .zero, .zero, .zero⟩
  | .inc8 _ => ⟨.computed, .zero, .computed, .keep⟩
  | .dec8 _ => ⟨.computed, .one, .computed, .keep⟩
  | .addHL _ => ⟨.keep, .zero, .computed, .computed⟩
  | .addSP _ | .ldHLSP _ => ⟨.zero, .zero, .computed, .computed⟩
  | .rlca | .rrca | .rla | .rra => ⟨.zero, .zero, .zero, .computed⟩
  | .rot .swap _ => ⟨.computed, .zero, .zero, .zero⟩
  | .rot _ _ => ⟨.computed, .zero, .zero, .computed⟩
  | .bit _ _ => ⟨.computed, .zero, .one, .keep⟩
  | .daa => ⟨.computed, .keep, .zero, .computed⟩
  | .cpl => ⟨.keep, .one, .one, .keep⟩
  | .scf => ⟨.keep, .zero, .zero, .one⟩
  | .ccf => ⟨.keep, .zero, .zero, .computed⟩
  | .pop .af => ⟨.computed, .computed, .computed, .computed⟩
  | .nop | .halt | .di | .ei | .stop _ | .set _ _ | .res _ _ | .incPair _ | .decPair _ => ⟨.keep, .keep, .keep, .keep⟩
  | .ldRR _ _ | .ldRN _ _ | .ldRM _ | .ldMR _ | .ldMN _ | .ldAFrom _ | .ldATo _ => ⟨.keep, .keep, .keep, .keep⟩
  | .ldhTo _ | .ldhFrom _ | .ldCTo | .ldCFrom | .ldAbsTo _ | .ldAbsFrom _ => ⟨.keep, .keep, .keep, .keep⟩
  | .ldPair _ _ | .ldAbsSP _ | .ldSPHL | .push _ | .pop _ => ⟨.keep, .keep, .keep, .keep⟩
  | .jp _ | .jpCc _ _ | .jpHL | .jr _ | .jrCc _ _ | .call _ | .callCc _ _ => ⟨.keep, .keep, .keep, .keep⟩
  | .ret | .retCc _ | .reti | .rst _ | .illegal _ | .prefixCB => ⟨.keep, .keep, .keep, .keep⟩

/-- The column "reads flags" of R27: whether anything but F itself can depend on F. The prefix row may introduce RL
or RR. -/
def readsFlags : Form → Bool
  | .alu .adc _ | .alu .sbc _ | .rla | .rra | .rot .rl _ | .rot .rr _ | .daa | .push .af => true
  | .jpCc _ _ | .jrCc _ _ | .callCc _ _ | .retCc _ | .prefixCB => true
  | _ => false

/-- The register halves a table R16 or R16STK entry holds. -/
def inReg16 : Reg16 → Reg8 → Bool
  | .bc, r => r == .b || r == .c
  | .de, r => r == .d || r == .e
  | .hl, r => r == .h || r == .l
  | .sp, _ => false
@[inherit_doc inReg16] def inStk : RegStk → Reg8 → Bool
  | .bc, r => inReg16 .bc r
  | .de, r => inReg16 .de r
  | .hl, r => inReg16 .hl r
  | .af, r => r == .a
/-- HL is what `(HL+)` and `(HL-)` move (R106). -/
def inPtr : MemPtr → Reg8 → Bool
  | .bc, _ | .de, _ => false
  | .hlInc, r | .hlDec, r => inReg16 .hl r
/-- The register half a table R8 entry is. -/
def inLoc : Loc8 → Reg8 → Bool
  | .reg q, r => r == q
  | .mHL, _ => false

/-- The register halves an instruction's rule writes: its destination, and HL for `(HL+)` and `(HL-)`. -/
def writesReg8 : Form → Reg8 → Bool
  | .ldRR dst _, r | .ldRN dst _, r | .ldRM dst, r => r == dst
  | .ldAFrom m, r => r == .a || inPtr m r
  | .ldATo m, r => inPtr m r
  | .ldhFrom _, r | .ldCFrom, r | .ldAbsFrom _, r | .rlca, r | .rrca, r | .rla, r | .rra, r | .cpl, r | .daa, r => r == .a
  | .ldPair p _, r | .incPair p, r | .decPair p, r => inReg16 p r
  | .ldHLSP _, r | .addHL _, r => inReg16 .hl r
  | .alu o _, r => o != .cp && r == .a
  | .inc8 x, r | .dec8 x, r | .rot _ x, r | .set _ x, r | .res _ x, r => inLoc x r
  | .pop p, r => inStk p r
  | .nop, _ | .halt, _ | .di, _ | .ei, _ | .scf, _ | .ccf, _ | .stop _, _ | .bit _ _, _ => false
  | .ldMR _, _ | .ldMN _, _ | .ldhTo _, _ | .ldCTo, _ | .ldAbsTo _, _ | .ldAbsSP _, _ | .ldSPHL, _ | .addSP _, _ => false
  | .jp _, _ | .jpCc _ _, _ | .jpHL, _ | .jr _, _ | .jrCc _ _, _ | .call _, _ | .callCc _ _, _ => false
  | .ret, _ | .retCc _, _ | .reti, _ | .rst _, _ | .push _, _ | .illegal _, _ | .prefixCB, _ => false

/-- The instructions that write SP (R33). -/
def writesSP : Form → Bool
  | .ldPair .sp _ | .ldSPHL | .incPair .sp | .decPair .sp | .addSP _ => true
  | .push _ | .pop _ | .call _ | .callCc _ _ | .ret | .retCc _ | .reti | .rst _ => true
  | _ => false

/-- The instructions that assign `pc` when they do (R110); a not-taken conditional does not. -/
def assignsPC (g : Form) (s : State) : Bool :=
  match g with
  | .jp _ | .jpHL | .jr _ | .call _ | .ret | .reti | .rst _ => true
  | .jpCc cc _ | .jrCc cc _ | .callCc cc _ | .retCc cc => s.cond cc
  | _ => false

/-- The outcome with F taken out of the next state. -/
def withoutF : Result → Result
  | .next t => .next { t with f := 0 }
  | r => r

/-- The outcome with IME taken out of the next state. -/
def withoutIME : Result → Result
  | .next t => .next { t with ime := false }
  | r => r

/-! ### What the rule of an instruction says: operation, encoding, cycles -/

/-- An instruction's rule in full: executing `i` at `s` answers the next state `t`, `i` is encoded by `bytes`, and its
step reports `cycles` (the default CYC value, R460). -/
def Retires (i : Instr) (s t : State) (bytes : List Byte) (cycles : Nat) : Prop :=
  exec i s = .next t ∧ i.encode = bytes ∧ cyclesOf i s = cycles

/-- An opcode byte, from its number. -/
def opByte (n : Nat) : Byte := BitVec.ofNat 8 n

/-- The indexes of table R8 (R103). -/
def regIndex : Reg8 → Nat
  | .b => 0 | .c => 1 | .d => 2 | .e => 3 | .h => 4 | .l => 5 | .a => 7
@[inherit_doc regIndex] def locIndex : Loc8 → Nat
  | .reg r => regIndex r
  | .mHL => 6

/-- The indexes of tables R16 (R104), R16STK (R105) and CC (R107). -/
def pairIndex : Reg16 → Nat
  | .bc => 0 | .de => 1 | .hl => 2 | .sp => 3
@[inherit_doc pairIndex] def stkIndex : RegStk → Nat
  | .bc => 0 | .de => 1 | .hl => 2 | .af => 3
@[inherit_doc pairIndex] def condIndex : Cond → Nat
  | .nz => 0 | .z => 1 | .nc => 2 | .c => 3

/-- The three operand forms of an 8-bit ALU operation with table-ALU index `y` (R200): bytes, length, cycles. -/
def aluBytes (y : Nat) : Src8 → List Byte
  | .loc l => [opByte (0x80 + 8 * y + locIndex l)]
  | .imm n => [opByte (0xC6 + 8 * y), n]
@[inherit_doc aluBytes] def aluLength : Src8 → Word
  | .loc _ => 1
  | .imm _ => 2
@[inherit_doc aluBytes] def aluCycles : Src8 → Nat
  | .loc (.reg _) => 4
  | .loc .mHL => 8
  | .imm _ => 8

/-- One cycle count for a register operand, another for `(HL)`. -/
def operandCycles (x : Loc8) (reg mem : Nat) : Nat :=
  match x with
  | .reg _ => reg
  | .mHL => mem

/-- The printed table of R367: what is added to A, and Carry after, from N, C, the high nibble, H and the low nibble. -/
def daaTable (n c : Bool) (hi : Nat) (h : Bool) (lo : Nat) : Byte × Bool :=
  match n, c, h with
  | false, false, false =>
    if hi ≤ 9 ∧ lo ≤ 9 then (0x00, false)
    else if hi ≤ 8 ∧ lo ≥ 0xA then (0x06, false)
    else if hi ≥ 0xA ∧ lo ≤ 9 then (0x60, true)
    else (0x66, true)
  | false, false, true =>
    if hi ≤ 8 then (0x06, false)
    else if hi = 9 ∧ lo ≤ 9 then (0x06, false)
    else (0x66, true)
  | false, true, false => if lo ≤ 9 then (0x60, true) else (0x66, true)
  | false, true, true => (0x66, true)
  | true, false, false => (0x00, false)
  | true, false, true => (0xFA, false)
  | true, true, false => (0xA0, true)
  | true, true, true => (0x9A, true)

/-- A byte of two decimal digits, and its value. -/
def bcdValid (a : Byte) : Bool := decide (a.toNat / 16 ≤ 9) && decide (a.toNat % 16 ≤ 9)
@[inherit_doc bcdValid] def bcdValue (a : Byte) : Nat := a.toNat / 16 * 10 + a.toNat % 16

/-- The byte that a table of (index, byte) pairs, stored in table order, leaves at index `k`: a later pair wins, and
`none` where no pair names `k` (R440 steps 2 to 4). -/
def tableByte : List Host.Cell → Nat → Option Byte
  | [], _ => none
  | (j, v) :: rest, k => (tableByte rest k).or (if j = k then some v else none)

/-- Apply byte writes in order, through the router. -/
def applyWrites (s : State) (ws : List (Word × Byte)) : State := ws.foldl (fun t w => t.writeByte w.1 w.2) s

end Sys2Proof.Claims
end

