-- ==== Sys2Proof/Certificates/Slice0/Obligations.lean ====
section
/-! DEFINITION. The statements for the provers. Most are about every instruction of a form: a hypothesis
`i.form = g` (Machine/Forms.lean) names the rows of opcode_table.json a clause is about, and a conclusion
`Retires i s { s with … } bytes cycles` (Safety.lean) says that `exec i s` answers that whole next state, so that every
field it does not name is unchanged, and gives the instruction's encoding and default cycles.

Where R119 does not give an opcode byte, the encoding lines of the rules are the spec's decisions D1, D38 and D39 ("from
general knowledge, not in source"), and the cycle counts are the default table CYC (R460, decision D27): the encoding and
cycle clauses below rest on those decisions of the spec (log entry 9 for the cycles). -/

open Sys2Proof Sys2Proof.Machine Sys2Proof.Claims

/-! ### Encoding -/

/-- Decoding what the encoder writes gives the instruction back, whatever bytes follow: every row but PREFIX CB, which
is no instruction by itself (R371). -/
def Obligations.DecodeEncodeRoundTrip : Prop :=
  ∀ (i : Instr) (rest : List Byte), i ≠ .prefixCB → decode (i.encode ++ rest) = .ok (i, rest)

/-- The other direction: the bytes the decoder consumed are exactly the encoding of what it answered. -/
def Obligations.EncodeDecodeRoundTrip : Prop :=
  ∀ (bytes : List Byte) (i : Instr) (rest : List Byte), decode bytes = .ok (i, rest) → bytes = i.encode ++ rest

/-- The two printed maps (section 6) and the maps in prose by fields x, y, z, p, q (R102 to R107, R111 to R117, R123)
give every three bytes the same instruction. The opcode map itself is the spec's decision D1. -/
def Obligations.MapsAgreeWithFields : Prop :=
  ∀ b0 b1 b2 : Byte, (decode3 b0 b1 b2).form = fieldForm b0 b1 b2

/-- The decoder consumes the number of bytes R101 gives byte 0, and rejects, by name, exactly the lists that end
inside the instruction. -/
def Obligations.DecodeConsumesLength : Prop :=
  ∀ (b0 : Byte) (rest : List Byte),
    (opLength b0 ≤ rest.length + 1 →
      ∃ i left, decode (b0 :: rest) = .ok (i, left) ∧ rest.length + 1 = opLength b0 + left.length) ∧
    (rest.length + 1 < opLength b0 → decode (b0 :: rest) = .error (.truncated b0)) ∧
    decode [] = .error .noByte

/-- Words written out from the encoding lines of the rules: 0x3E d8 (R141), 01 010 011 (LD D,E, R140), 10 101 110
(XOR (HL), R206), 11 000 010 lo hi (JP NZ,a16, R321), 11 10 0101 (PUSH HL, R350), 11 111 000 e8 (LD HL,SP+e8, R163),
CB 00 100 111 (SLA A, R268), CB 01 111 110 (BIT 7,(HL), R300), 0xD3 (R370), 10 00 (STOP, R363). -/
def Obligations.SampleWordsDecode : Prop :=
  decode [0b00111110, 0xAA] = .ok (.ldA_d8 0xAA, []) ∧
  decode [0b01010011] = .ok (.ldD_E, []) ∧
  decode [0b10101110] = .ok (.xorMHL, []) ∧
  decode [0b11000010, 0x34, 0x12] = .ok (.jpNZ_a16 0x1234, []) ∧
  decode [0b11100101] = .ok (.pushHL, []) ∧
  decode [0b11111000, 0xFE] = .ok (.ldHL_SPe8 0xFE, []) ∧
  decode [0xCB, 0b00100111] = .ok (.slaA, []) ∧
  decode [0xCB, 0b01111110] = .ok (.bit7_MHL, []) ∧
  decode [0b11010011] = .ok (.illegalD3, []) ∧
  decode [0b00010000, 0x00] = .ok (.stop 0x00, [])

/-! ### The step -/

/-- When the bytes at PC decode to an instruction and HALTED is 0, the step is `exec` of that instruction. -/
def Obligations.StepRunsDecodedInstruction : Prop :=
  ∀ (s : State) (i : Instr) (rest : List Byte), s.halted = false →
    decode [s.readByte s.pc, s.readByte (s.pc + 1), s.readByte (s.pc + 2)] = .ok (i, rest) → step s = exec i s

/-- "STEP is total": every step ends in exactly one of the three ways, and the reported StepResult says which (R446):
with HALTED = 1 an Idle step, which leaves the state, and otherwise Retired or Unimplemented. -/
def Obligations.StepEndsInOneReportedWay : Prop :=
  ∀ s : State,
    match stepResult s with
    | .retired _ => s.halted = false ∧ ∃ t, step s = .next t
    | .idle _ => s.halted = true ∧ step s = .next s
    | .unimplemented op pc => s.halted = false ∧ step s = .fault (.unimplemented op pc)

/-- The Unimplemented signal arises exactly for the eleven holes and for STOP with a pad byte other than 0x00, and it
carries byte 0 and pc0 (R118, R400; decisions D14, D15). -/
def Obligations.UnimplementedExactlyForHoles : Prop :=
  ∀ (s : State) (op : Byte) (pc : Word),
    step s = .fault (.unimplemented op pc) ↔
      s.halted = false ∧ pc = s.pc ∧ op = s.readByte s.pc ∧
        (op ∈ holes ∨ (op = 0x10 ∧ s.readByte (s.pc + 1) ≠ 0x00))

/-- The eleven rows ILLEGAL_xx stop with the Unimplemented signal, whatever the state (R370). -/
def Obligations.IllegalRowsSignal : Prop :=
  ∀ (i : Instr) (op : Byte) (s : State), i.form = .illegal op →
    exec i s = .fault (.unimplemented op s.pc) ∧ i.encode = [op] ∧ op ∈ holes

/-- Every instruction of the map retires from every state: no well-formed instruction ever stops (R401, R410). -/
def Obligations.WellFormedAlwaysRetires : Prop :=
  ∀ (i : Instr) (s : State), i.wellFormed = true → ∃ t, exec i s = .next t

/-- The prefix row runs the extended instruction that the byte at PC+1 selects, and so always answers a next state
(R371; the row's meaning as a constructor is log entry 6). -/
def Obligations.PrefixRowDispatches : Prop :=
  ∀ s : State, exec .prefixCB s = exec (extInstr (s.readByte (s.pc + 1))) s ∧ ∃ t, exec .prefixCB s = .next t

/-! ### Loads, stores and moves -/

/-- `LD r,r'` (R140), `LD r,d8` (R141), `LD r,(HL)` (R142): the destination half takes the byte, and nothing else but PC
changes. -/
def Obligations.RegisterLoads : Prop :=
  ∀ (i : Instr) (dst src : Reg8) (n : Byte) (s : State),
    (i.form = .ldRR dst src → Retires i s { s.setReg8 dst (s.getReg8 src) with pc := s.pc + 1 }
      [opByte (0x40 + 8 * regIndex dst + regIndex src)] 4) ∧
    (i.form = .ldRN dst n → Retires i s { s.setReg8 dst n with pc := s.pc + 2 }
      [opByte (0x06 + 8 * regIndex dst), n] 8) ∧
    (i.form = .ldRM dst → Retires i s { s.setReg8 dst (s.readByte s.hl) with pc := s.pc + 1 }
      [opByte (0x46 + 8 * regIndex dst)] 8)

/-- `LD (HL),r` (R143) and `LD (HL),d8` (R144): one byte is presented to the router at HL, and nothing else but PC
changes. -/
def Obligations.StoresThroughHL : Prop :=
  ∀ (i : Instr) (src : Reg8) (n : Byte) (s : State),
    (i.form = .ldMR src → Retires i s { s.writeByte s.hl (s.getReg8 src) with pc := s.pc + 1 }
      [opByte (0x70 + regIndex src)] 8) ∧
    (i.form = .ldMN n → Retires i s { s.writeByte s.hl n with pc := s.pc + 2 } [0x36, n] 12)

/-- `LD A,(BC)`, `LD A,(DE)`, `LD A,(HL+)`, `LD A,(HL-)` and the four stores (R145 to R152): HL moves after the access,
modulo 0x10000 and whatever the router did, and BC and DE never do. -/
def Obligations.PointerLoadsAndStores : Prop :=
  ∀ s : State,
    Retires .ldA_MBC s { s with a := s.readByte s.bc, pc := s.pc + 1 } [0x0A] 8 ∧
    Retires .ldA_MDE s { s with a := s.readByte s.de, pc := s.pc + 1 } [0x1A] 8 ∧
    Retires .ldA_MHLinc s
      { s with a := s.readByte s.hl, h := hiByte (s.hl + 1), l := loByte (s.hl + 1), pc := s.pc + 1 } [0x2A] 8 ∧
    Retires .ldA_MHLdec s
      { s with a := s.readByte s.hl, h := hiByte (s.hl - 1), l := loByte (s.hl - 1), pc := s.pc + 1 } [0x3A] 8 ∧
    Retires .ldMBC_A s { s.writeByte s.bc s.a with pc := s.pc + 1 } [0x02] 8 ∧
    Retires .ldMDE_A s { s.writeByte s.de s.a with pc := s.pc + 1 } [0x12] 8 ∧
    Retires .ldMHLinc_A s
      { s.writeByte s.hl s.a with h := hiByte (s.hl + 1), l := loByte (s.hl + 1), pc := s.pc + 1 } [0x22] 8 ∧
    Retires .ldMHLdec_A s
      { s.writeByte s.hl s.a with h := hiByte (s.hl - 1), l := loByte (s.hl - 1), pc := s.pc + 1 } [0x32] 8

/-- `LDH` and `LD (C)` reach 0xFF00 plus the offset (R153 to R156): a store there changes that one cell of GM and no
other, "stored directly, never mirrored, never protected". -/
def Obligations.HighPageAccess : Prop :=
  ∀ (a8 : Byte) (s : State),
    Retires (.ldhMa8_A a8) s { s with gm := s.gm.write (0xFF00 + a8.toNat) s.a, pc := s.pc + 2 } [0xE0, a8] 12 ∧
    Retires (.ldhA_Ma8 a8) s { s with a := s.gm.read (0xFF00 + a8.toNat), pc := s.pc + 2 } [0xF0, a8] 12 ∧
    Retires .ldMC_A s { s with gm := s.gm.write (0xFF00 + s.c.toNat) s.a, pc := s.pc + 1 } [0xE2] 8 ∧
    Retires .ldA_MC s { s with a := s.gm.read (0xFF00 + s.c.toNat), pc := s.pc + 1 } [0xF2] 8

/-- `LD (a16),A` (R157), `LD A,(a16)` (R158), `LD rr,d16` (R160), `LD (a16),SP` (R161: two bytes, low byte at a16, high
byte at a16 + 1 modulo 0x10000) and `LD SP,HL` (R162). -/
def Obligations.AbsoluteAndPairLoads : Prop :=
  ∀ (w : Word) (s : State),
    Retires (.ldMa16_A w) s { s.writeByte w s.a with pc := s.pc + 3 } [0xEA, loByte w, hiByte w] 16 ∧
    Retires (.ldA_Ma16 w) s { s with a := s.readByte w, pc := s.pc + 3 } [0xFA, loByte w, hiByte w] 16 ∧
    Retires (.ldBC_d16 w) s { s with b := hiByte w, c := loByte w, pc := s.pc + 3 } [0x01, loByte w, hiByte w] 12 ∧
    Retires (.ldDE_d16 w) s { s with d := hiByte w, e := loByte w, pc := s.pc + 3 } [0x11, loByte w, hiByte w] 12 ∧
    Retires (.ldHL_d16 w) s { s with h := hiByte w, l := loByte w, pc := s.pc + 3 } [0x21, loByte w, hiByte w] 12 ∧
    Retires (.ldSP_d16 w) s { s with sp := w, pc := s.pc + 3 } [0x31, loByte w, hiByte w] 12 ∧
    Retires (.ldMa16_SP w) s
      { (s.writeByte w (loByte s.sp)).writeByte (w + 1) (hiByte s.sp) with pc := s.pc + 3 }
      [0x08, loByte w, hiByte w] 20 ∧
    Retires .ldSP_HL s { s with sp := s.hl, pc := s.pc + 1 } [0xF9] 8

/-- `LD HL,SP+e8` and `ADD SP,e8`: SP plus the signed displacement modulo 0x10000; Z and N are cleared. H and C differ:
for LD HL,SP+e8 they are the carries out of bit 3 and bit 7 of the low-byte addition (R163, the spec's decision D20), for
ADD SP,e8 those out of bit 11 and bit 15 of the 16-bit addition (R231, decision D19). -/
def Obligations.OffsetsFromSP : Prop :=
  ∀ (e8 : Byte) (s : State),
    let v := BitVec.ofInt 16 (s.sp.toNat + e8.toInt)
    let off := (e8.signExtend 16).toNat
    Retires (.ldHL_SPe8 e8) s { s with
      h := hiByte v, l := loByte v, pc := s.pc + 2
      f := flagByte false false (decide (s.sp.toNat % 16 + e8.toNat % 16 ≥ 16))
        (decide (s.sp.toNat % 256 + e8.toNat ≥ 256)) } [0xF8, e8] 12 ∧
    Retires (.addSP_e8 e8) s { s with
      sp := v, pc := s.pc + 2
      f := flagByte false false (decide (s.sp.toNat % 0x1000 + off % 0x1000 ≥ 0x1000))
        (decide (s.sp.toNat + off ≥ 0x10000)) } [0xE8, e8] 16

/-! ### 8-bit arithmetic and logic -/

/-- `ADD A,x` (R201), `SUB x` (R203), `CP x` (R208) in their register, (HL) and immediate forms: the result modulo 256,
Z from it, H and C the carries or borrows of exact integer arithmetic; CP leaves A. -/
def Obligations.AddSubtractCompare : Prop :=
  ∀ (i : Instr) (x : Src8) (s : State),
    let v := s.getSrc x
    let next := s.pc + aluLength x
    let less := flagByte (s.a == v) true (decide (s.a.toNat % 16 < v.toNat % 16)) (decide (s.a.toNat < v.toNat))
    (i.form = .alu .add x → Retires i s { s with
      a := s.a + v, pc := next
      f := flagByte (s.a + v == 0) false (decide (s.a.toNat % 16 + v.toNat % 16 > 15))
        (decide (s.a.toNat + v.toNat > 255)) } (aluBytes 0 x) (aluCycles x)) ∧
    (i.form = .alu .sub x →
      Retires i s { s with a := s.a - v, pc := next, f := less } (aluBytes 2 x) (aluCycles x)) ∧
    (i.form = .alu .cp x → Retires i s { s with pc := next, f := less } (aluBytes 7 x) (aluCycles x))

/-- `ADC A,x` and `SBC A,x`: the carry-in takes part in the result, in H and in C (R202, R204, the spec's decision
D22). -/
def Obligations.CarryArithmetic : Prop :=
  ∀ (i : Instr) (x : Src8) (s : State),
    let v := (s.getSrc x).toNat
    let cin := if s.fC then 1 else 0
    let next := s.pc + aluLength x
    let sum := (s.a.toNat + v + cin) % 256
    let diff := (s.a.toNat + 512 - v - cin) % 256
    (i.form = .alu .adc x → Retires i s { s with
      a := BitVec.ofNat 8 sum, pc := next
      f := flagByte (decide (sum = 0)) false (decide (s.a.toNat % 16 + v % 16 + cin > 15))
        (decide (s.a.toNat + v + cin > 255)) } (aluBytes 1 x) (aluCycles x)) ∧
    (i.form = .alu .sbc x → Retires i s { s with
      a := BitVec.ofNat 8 diff, pc := next
      f := flagByte (decide (diff = 0)) true (decide (s.a.toNat % 16 < v % 16 + cin))
        (decide (s.a.toNat < v + cin)) } (aluBytes 3 x) (aluCycles x))

/-- `AND x`, `XOR x`, `OR x`: AND sets H, XOR and OR clear it, all clear C and N (R205 to R207, with the spec's decision
D22 for N and for AND's C). -/
def Obligations.LogicOperations : Prop :=
  ∀ (i : Instr) (x : Src8) (s : State),
    let v := s.getSrc x
    let next := s.pc + aluLength x
    (i.form = .alu .and x → Retires i s { s with
      a := s.a &&& v, pc := next, f := flagByte (s.a &&& v == 0) false true false } (aluBytes 4 x) (aluCycles x)) ∧
    (i.form = .alu .xor x → Retires i s { s with
      a := s.a ^^^ v, pc := next, f := flagByte (s.a ^^^ v == 0) false false false } (aluBytes 5 x) (aluCycles x)) ∧
    (i.form = .alu .or x → Retires i s { s with
      a := s.a ||| v, pc := next, f := flagByte (s.a ||| v == 0) false false false } (aluBytes 6 x) (aluCycles x))

/-- `INC` and `DEC` of a register half or of the cell at HL: Carry is left, H is the carry or borrow of the low nibble,
and the flags come from the value read even where the router drops the write (R250 to R253, decision D22). -/
def Obligations.IncrementDecrementByte : Prop :=
  ∀ (i : Instr) (x : Loc8) (s : State),
    let v := (s.getLoc x).toNat
    (i.form = .inc8 x → Retires i s { s.setLoc x (BitVec.ofNat 8 (v + 1)) with
      f := flagByte (decide (v = 255)) false (decide (v % 16 = 15)) s.fC, pc := s.pc + 1 }
      [opByte (0x04 + 8 * locIndex x)] (operandCycles x 4 12)) ∧
    (i.form = .dec8 x → Retires i s { s.setLoc x (BitVec.ofNat 8 (v + 255)) with
      f := flagByte (decide (v = 1)) true (decide (v % 16 = 0)) s.fC, pc := s.pc + 1 }
      [opByte (0x05 + 8 * locIndex x)] (operandCycles x 4 12))

/-! ### 16-bit arithmetic -/

/-- `INC rr` (R232) and `DEC rr` (R233): modulo 0x10000, and no flag changes. -/
def Obligations.IncrementDecrementPair : Prop :=
  ∀ (i : Instr) (p : Reg16) (s : State),
    (i.form = .incPair p → Retires i s
      { s.setReg16 p (BitVec.ofNat 16 ((s.getReg16 p).toNat + 1)) with pc := s.pc + 1 }
      [opByte (0x03 + 16 * pairIndex p)] 8) ∧
    (i.form = .decPair p → Retires i s
      { s.setReg16 p (BitVec.ofNat 16 ((s.getReg16 p).toNat + 0xFFFF)) with pc := s.pc + 1 }
      [opByte (0x0B + 16 * pairIndex p)] 8)

/-- `ADD HL,rr`: Z is left, N cleared, H and C the carries out of bit 11 and bit 15 (R230, decision D23 for Z and N). -/
def Obligations.AddPairToHL : Prop :=
  ∀ (i : Instr) (p : Reg16) (s : State), i.form = .addHL p →
    let v := s.getReg16 p
    Retires i s { s with
      h := hiByte (s.hl + v), l := loByte (s.hl + v), pc := s.pc + 1
      f := flagByte s.fZ false (decide (s.hl.toNat % 0x1000 + v.toNat % 0x1000 ≥ 0x1000))
        (decide (s.hl.toNat + v.toNat ≥ 0x10000)) } [opByte (0x09 + 16 * pairIndex p)] 8

/-! ### Rotates, shifts and bits -/

/-- The extended-table rotates, SLA and SWAP (R264 to R268, R270), on a register half or on the cell at HL, in numbers:
the bit shifted out becomes Carry (SWAP clears it), Z is from the result, N and H are cleared. -/
def Obligations.RotatesAndShifts : Prop :=
  ∀ (i : Instr) (x : Loc8) (s : State),
    let v := (s.getLoc x).toNat
    let cin := if s.fC then 1 else 0
    let done : Nat → Nat → Nat → Prop := fun w c y => Retires i s { s.setLoc x (BitVec.ofNat 8 w) with
      f := flagByte (decide (w = 0)) false false (decide (c = 1)), pc := s.pc + 2 }
      [0xCB, opByte (8 * y + locIndex x)] (operandCycles x 8 16)
    (i.form = .rot .rlc x → done (v * 2 % 256 + v / 128) (v / 128) 0) ∧
    (i.form = .rot .rrc x → done (v / 2 + v % 2 * 128) (v % 2) 1) ∧
    (i.form = .rot .rl x → done (v * 2 % 256 + cin) (v / 128) 2) ∧
    (i.form = .rot .rr x → done (v / 2 + cin * 128) (v % 2) 3) ∧
    (i.form = .rot .sla x → done (v * 2 % 256) (v / 128) 4) ∧
    (i.form = .rot .swap x → done (v % 16 * 16 + v / 16) 0 6)

/-- `SRA x` keeps bit 7 (R269): the signed value halved, rounded down. `SRL x` makes it 0 (R271): the unsigned value
halved. What enters at bit 7 is the spec's decision D26. -/
def Obligations.ShiftsRight : Prop :=
  ∀ (i : Instr) (x : Loc8) (s : State),
    let v := s.getLoc x
    let done : Byte → Nat → Prop := fun w y => Retires i s { s.setLoc x w with
      f := flagByte (w == 0) false false (decide (v.toNat % 2 = 1)), pc := s.pc + 2 }
      [0xCB, opByte (8 * y + locIndex x)] (operandCycles x 8 16)
    (i.form = .rot .sra x → done (BitVec.ofInt 8 (v.toInt / 2)) 5) ∧
    (i.form = .rot .srl x → done (BitVec.ofNat 8 (v.toNat / 2)) 7)

/-- `RLCA`, `RRCA`, `RLA`, `RRA` rotate A as RLC A, RRC A, RL A, RR A do, in one byte, and clear Z (R260 to R263, the
spec's decision D21). -/
def Obligations.AccumulatorRotates : Prop :=
  ∀ s : State,
    let v := s.a.toNat
    let cin := if s.fC then 1 else 0
    let done : Instr → Nat → Nat → Byte → Prop := fun i w c op => Retires i s { s with
      a := BitVec.ofNat 8 w, f := flagByte false false false (decide (c = 1)), pc := s.pc + 1 } [op] 4
    done .rlca (v * 2 % 256 + v / 128) (v / 128) 0x07 ∧
    done .rrca (v / 2 + v % 2 * 128) (v % 2) 0x0F ∧
    done .rla (v * 2 % 256 + cin) (v / 128) 0x17 ∧
    done .rra (v / 2 + cin * 128) (v % 2) 0x1F

/-- `BIT` (R300), `SET` (R301), `RES` (R302) for every bit and every table R8 operand: BIT writes only flags and leaves
Carry; SET and RES write only the operand. -/
def Obligations.BitOperations : Prop :=
  ∀ (i : Instr) (b : Fin 8) (x : Loc8) (s : State),
    let v := (s.getLoc x).toNat
    let isSet := v / 2 ^ b.val % 2 = 1
    (i.form = .bit b x → Retires i s { s with
      f := flagByte (decide (¬isSet)) false true s.fC, pc := s.pc + 2 }
      [0xCB, opByte (0x40 + 8 * b.val + locIndex x)] (operandCycles x 8 12)) ∧
    (i.form = .set b x → Retires i s { s.setLoc x (BitVec.ofNat 8 (if isSet then v else v + 2 ^ b.val)) with
      pc := s.pc + 2 } [0xCB, opByte (0xC0 + 8 * b.val + locIndex x)] (operandCycles x 8 16)) ∧
    (i.form = .res b x → Retires i s { s.setLoc x (BitVec.ofNat 8 (if isSet then v - 2 ^ b.val else v)) with
      pc := s.pc + 2 } [0xCB, opByte (0x80 + 8 * b.val + locIndex x)] (operandCycles x 8 16))

/-! ### Control transfer and stack -/

/-- `JP a16` (R320), `JP cc,a16` (R321), `JR e8` (R323), `JR cc,e8` (R324): the target is absolute, or the next
instruction's address plus the signed displacement modulo 0x10000; a not-taken conditional goes to the next
instruction. -/
def Obligations.JumpsSetPC : Prop :=
  ∀ (i : Instr) (cc : Cond) (a16 : Word) (e8 : Byte) (s : State),
    let near := BitVec.ofInt 16 (s.pc.toNat + 2 + e8.toInt)
    (i.form = .jp a16 → Retires i s { s with pc := a16 } [0xC3, loByte a16, hiByte a16] 16) ∧
    (i.form = .jpCc cc a16 → Retires i s { s with pc := if s.cond cc then a16 else s.pc + 3 }
      [opByte (0xC2 + 8 * condIndex cc), loByte a16, hiByte a16] (if s.cond cc then 16 else 12)) ∧
    (i.form = .jr e8 → Retires i s { s with pc := near } [0x18, e8] 12) ∧
    (i.form = .jrCc cc e8 → Retires i s { s with pc := if s.cond cc then near else s.pc + 2 }
      [opByte (0x20 + 8 * condIndex cc), e8] (if s.cond cc then 12 else 8))

/-- `CALL` (R325), `CALL cc` (R326), `RST` (R330): the address after the instruction goes to SP-1 (high byte) and SP-2
(low byte), SP falls by 2, and PC is the target; a not-taken CALL touches neither stack nor SP. -/
def Obligations.CallsPushReturnAddress : Prop :=
  ∀ (i : Instr) (cc : Cond) (a16 : Word) (y : Fin 8) (s : State),
    let pushed : Word → State := fun ret =>
      (s.writeByte (s.sp - 1) (hiByte ret)).writeByte (s.sp - 2) (loByte ret)
    let called : State := { pushed (s.pc + 3) with sp := s.sp - 2, pc := a16 }
    let condBytes : List Byte := [opByte (0xC4 + 8 * condIndex cc), loByte a16, hiByte a16]
    (i.form = .call a16 → Retires i s called [0xCD, loByte a16, hiByte a16] 24) ∧
    (i.form = .callCc cc a16 → s.cond cc = true → Retires i s called condBytes 24) ∧
    (i.form = .callCc cc a16 → s.cond cc = false → Retires i s { s with pc := s.pc + 3 } condBytes 12) ∧
    (i.form = .rst y → Retires i s
      { pushed (s.pc + 1) with sp := s.sp - 2, pc := BitVec.ofNat 16 (8 * y.val) } [opByte (0xC7 + 8 * y.val)] 16)

/-- `RET` (R327) and `RET cc` (R328): PC is the word at SP (low byte first), SP rises by 2 and memory is not modified; a
not-taken RET only goes on. -/
def Obligations.ReturnsPopPC : Prop :=
  ∀ (i : Instr) (cc : Cond) (s : State),
    let popped : State := { s with sp := s.sp + 2, pc := word16 (s.readByte (s.sp + 1)) (s.readByte s.sp) }
    (i.form = .ret → Retires i s popped [0xC9] 16) ∧
    (i.form = .retCc cc → Retires i s (if s.cond cc then popped else { s with pc := s.pc + 1 })
      [opByte (0xC0 + 8 * condIndex cc)] (if s.cond cc then 20 else 8))

/-- `RETI` is RET with IME set, and `JP HL` jumps to HL's value (R322, R329: the spec's decisions D1 and D18). -/
def Obligations.ReturnEnableAndJumpHL : Prop :=
  ∀ s : State,
    Retires .reti s { s with
      sp := s.sp + 2, pc := word16 (s.readByte (s.sp + 1)) (s.readByte s.sp), ime := true } [0xD9] 16 ∧
    Retires .jpHL s { s with pc := s.hl } [0xE9] 4

/-- `PUSH rr` for BC, DE, HL and AF (R350) and `POP rr` for BC, DE and HL (R351): the high byte at SP-1 and the low byte
at SP-2, and back. -/
def Obligations.PushAndPopPairs : Prop :=
  ∀ s : State,
    let pushed : Byte → Byte → State := fun hi lo =>
      { (s.writeByte (s.sp - 1) hi).writeByte (s.sp - 2) lo with sp := s.sp - 2, pc := s.pc + 1 }
    let lo := s.readByte s.sp
    let hi := s.readByte (s.sp + 1)
    Retires .pushBC s (pushed s.b s.c) [0xC5] 16 ∧
    Retires .pushDE s (pushed s.d s.e) [0xD5] 16 ∧
    Retires .pushHL s (pushed s.h s.l) [0xE5] 16 ∧
    Retires .pushAF s (pushed s.a s.f) [0xF5] 16 ∧
    Retires .popBC s { s with b := hi, c := lo, sp := s.sp + 2, pc := s.pc + 1 } [0xC1] 12 ∧
    Retires .popDE s { s with d := hi, e := lo, sp := s.sp + 2, pc := s.pc + 1 } [0xD1] 12 ∧
    Retires .popHL s { s with h := hi, l := lo, sp := s.sp + 2, pc := s.pc + 1 } [0xE1] 12

/-- `POP AF` loads A and all four flags, and bits 3..0 of F stay 0 (R352; conflict C1, decision D32). -/
def Obligations.PopAFMasksFlags : Prop :=
  ∀ s : State,
    let lo := s.readByte s.sp
    Retires .popAF s { s with
      a := s.readByte (s.sp + 1), f := flagByte (lo.getLsbD 7) (lo.getLsbD 6) (lo.getLsbD 5) (lo.getLsbD 4)
      sp := s.sp + 2, pc := s.pc + 1 } [0xF1] 12

/-- The two stack primitives: `push16(w)` presents the high byte at SP-1 and then the low byte at SP-2, with SP read once
before both writes and updated after them (R353); `pop16()` answers the word with its low byte at SP and its high byte at
SP+1, raises SP by 2 and modifies no cell (R354). Every address is modulo 0x10000. -/
def Obligations.StackPrimitives : Prop :=
  ∀ (s : State) (w : Word),
    s.push16 w = { (s.writeByte (s.sp - 1) (hiByte w)).writeByte (s.sp - 2) (loByte w) with sp := s.sp - 2 } ∧
    s.stackTop.toNat = (s.readByte (s.sp + 1)).toNat * 256 + (s.readByte s.sp).toNat ∧
    s.dropTop = { s with sp := s.sp + 2 }

/-- PUSH then POP of a pair restores it when both stack cells are writable, and SP in every case (R356; the premise
`Inv` is what R25 gives every state a run reaches, and AF's F needs it). -/
def Obligations.PushPopRestores : Prop :=
  ∀ (i j : Instr) (p : RegStk) (s t u : State), s.Inv → i.form = .push p → j.form = .pop p →
    exec i s = .next t → exec j t = .next u →
    u.sp = s.sp ∧ (Writable (s.sp - 1) → Writable (s.sp - 2) → u.getStk p = s.getStk p)

/-- CALL then RET comes back to the instruction after the CALL, with SP as it was, when both stack cells are writable
(R325, R327, R331 items 3 and 4). -/
def Obligations.CallThenReturns : Prop :=
  ∀ (a16 : Word) (s t u : State), s.Inv → Writable (s.sp - 1) → Writable (s.sp - 2) →
    exec (.call_a16 a16) s = .next t → exec .ret t = .next u → u.pc = s.pc + 3 ∧ u.sp = s.sp

/-! ### Miscellaneous -/

/-- `NOP` (R360) changes only PC, and `CPL` (R366) complements A, sets N and H and leaves Z and C. -/
def Obligations.NopAndComplement : Prop :=
  ∀ s : State,
    Retires .nop s { s with pc := s.pc + 1 } [0x00] 4 ∧
    Retires .cpl s { s with a := ~~~s.a, f := flagByte s.fZ true true s.fC, pc := s.pc + 1 } [0x2F] 4

/-- `HALT` and the Idle steps after it, `STOP` in both forms, `SCF`, `CCF`, `DI`, `EI` (R361 to R365, R368, R369: the
spec's decisions D12, D13, D14, D24, D16). -/
def Obligations.SystemInstructions : Prop :=
  ∀ (s : State) (pad : Byte),
    Retires .halt s { s with halted := true, pc := s.pc + 1 } [0x76] 4 ∧
    (s.halted = true → step s = .next s ∧ stepResult s = .idle 4) ∧
    Retires (.stop 0x00) s { s with pc := s.pc + 2 } [0x10, 0x00] 4 ∧
    (pad ≠ 0x00 → exec (.stop pad) s = .fault (.unimplemented 0x10 s.pc)) ∧
    Retires .scf s { s with f := flagByte s.fZ false false true, pc := s.pc + 1 } [0x37] 4 ∧
    Retires .ccf s { s with f := flagByte s.fZ false false (!s.fC), pc := s.pc + 1 } [0x3F] 4 ∧
    Retires .di s { s with ime := false, pc := s.pc + 1 } [0xF3] 4 ∧
    Retires .ei s { s with ime := true, pc := s.pc + 1 } [0xFB] 4

/-- `DAA` is the printed correction table, for every A, N, H and C (R367, the spec's decision D25). -/
def Obligations.DecimalAdjustIsTheTable : Prop :=
  ∀ s : State,
    let row := daaTable s.fN s.fC (s.a.toNat / 16) s.fH (s.a.toNat % 16)
    Retires .daa s { s with
      a := s.a + row.1, f := flagByte (s.a + row.1 == 0) s.fN false row.2, pc := s.pc + 1 } [0x27] 4

/-- Decimal arithmetic comes out right: after `ADD A,B` or `SUB B` of two-digit decimal bytes, DAA gives the decimal
sum or difference modulo 100, with Carry the decimal carry or borrow (R367: what the correction is for). -/
def Obligations.DecimalArithmetic : Prop :=
  ∀ s t u : State, bcdValid s.a = true → bcdValid s.b = true → exec .daa t = .next u →
    (exec .addA_B s = .next t → bcdValid u.a = true ∧ bcdValue u.a = (bcdValue s.a + bcdValue s.b) % 100 ∧
      (u.fC = true ↔ 100 ≤ bcdValue s.a + bcdValue s.b)) ∧
    (exec .subB s = .next t → bcdValid u.a = true ∧ bcdValue u.a = (bcdValue s.a + 100 - bcdValue s.b) % 100 ∧
      (u.fC = true ↔ bcdValue s.a < bcdValue s.b))

/-! ### Memory -/

/-- The switchable ROM window reads CART at the selected bank, and a write there changes nothing at all: it is no
bank-select command (R62, the spec's decision D5). -/
def Obligations.SwitchableRomWindow : Prop :=
  ∀ (s : State) (addr : Word) (v : Byte), 0x4000 ≤ addr.toNat → addr.toNat ≤ 0x7FFF →
    s.readByte addr = s.cart.read (s.romb * 0x4000 + (addr.toNat - 0x4000)) ∧ s.writeByte addr v = s

/-- The fixed ROM bank reads CART and ignores writes (R61); the external-RAM window reads and writes one cell of XRAM,
at the selected bank, and nothing else (R64). -/
def Obligations.FixedRomAndExternalRam : Prop :=
  ∀ (s : State) (addr : Word) (v : Byte),
    (addr.toNat ≤ 0x3FFF → s.readByte addr = s.cart.read addr.toNat ∧ s.writeByte addr v = s) ∧
    (0xA000 ≤ addr.toNat → addr.toNat ≤ 0xBFFF →
      s.readByte addr = s.xram.read (s.ramb * 0x2000 + (addr.toNat - 0xA000)) ∧
      s.writeByte addr v = { s with xram := s.xram.write (s.ramb * 0x2000 + (addr.toNat - 0xA000)) v })

/-- A work-RAM write stores its own cell and the one 0x2000 above (R65), an echo write its own and the one 0x2000 below
(R66); a read is of the cell itself. So the byte is read back at both addresses, for the whole of each range, and every
other address reads as before. `Inv` is the canonical form of the arrays, which every run keeps. -/
def Obligations.MirrorStores : Prop :=
  ∀ (s : State) (addr q : Word) (v : Byte), s.Inv →
    (0xC000 ≤ addr.toNat → addr.toNat ≤ 0xDFFF →
      s.readByte addr = s.gm.read addr.toNat ∧
      s.writeByte addr v = { s with gm := (s.gm.write addr.toNat v).write (addr.toNat + 0x2000) v } ∧
      (s.writeByte addr v).readByte addr = v ∧ (s.writeByte addr v).readByte (addr + 0x2000) = v ∧
      (q ≠ addr → q ≠ addr + 0x2000 → (s.writeByte addr v).readByte q = s.readByte q)) ∧
    (0xE000 ≤ addr.toNat → addr.toNat ≤ 0xFDFF →
      s.readByte addr = s.gm.read addr.toNat ∧
      s.writeByte addr v = { s with gm := (s.gm.write addr.toNat v).write (addr.toNat - 0x2000) v } ∧
      (s.writeByte addr v).readByte addr = v ∧ (s.writeByte addr v).readByte (addr - 0x2000) = v ∧
      (q ≠ addr → q ≠ addr - 0x2000 → (s.writeByte addr v).readByte q = s.readByte q))

/-- Video RAM (R63), object attribute memory and the high page (R67) are plain storage in GM: a write changes the one
cell, what is written is read back, and every other address reads as before. `Inv` is the canonical form of the arrays,
which every run keeps. -/
def Obligations.PlainStorage : Prop :=
  ∀ (s : State) (addr q : Word) (v : Byte), s.Inv →
    ((0x8000 ≤ addr.toNat ∧ addr.toNat ≤ 0x9FFF) ∨ (0xFE00 ≤ addr.toNat ∧ addr.toNat ≤ 0xFE9F) ∨
      0xFF00 ≤ addr.toNat) →
    s.readByte addr = s.gm.read addr.toNat ∧
    s.writeByte addr v = { s with gm := s.gm.write addr.toNat v } ∧
    (s.writeByte addr v).readByte addr = v ∧ (q ≠ addr → (s.writeByte addr v).readByte q = s.readByte q)

/-- A write presented in 0xFEA0 to 0xFEFF changes no cell, and yet a work-RAM write whose mirror lands there does
change it: the mirror store is raw (R70, R71; the spec's decision D30). -/
def Obligations.ProtectedRange : Prop :=
  ∀ (s : State) (addr : Word) (v : Byte), 0xFEA0 ≤ addr.toNat → addr.toNat ≤ 0xFEFF → s.Inv →
    s.writeByte addr v = s ∧ s.readByte addr = s.gm.read addr.toNat ∧
    (s.writeByte (addr - 0x2000) v).readByte addr = v

/-- A word read composes two byte reads, little-endian: the low byte at the address, the high byte at the next one
modulo 0x10000, so "a word read at 0xFFFF takes its high byte from 0x0000" (R72). -/
def Obligations.WordReads : Prop :=
  ∀ (s : State) (addr : Word),
    s.readWord addr = word16 (s.readByte (addr + 1)) (s.readByte addr) ∧
    (s.readWord addr).toNat = (s.readByte (addr + 1)).toNat * 256 + (s.readByte addr).toNat ∧
    (s.readWord 0xFFFF).toNat = (s.readByte 0x0000).toNat * 256 + (s.readByte 0xFFFF).toNat

/-- Fetch is coherent with stores: when `LD (a16),A` stores into the cell the next fetch reads, the next step runs
what was stored (R83). -/
def Obligations.StoreSeenByNextFetch : Prop :=
  ∀ (s t : State), s.Inv → Writable (s.pc + 3) → exec (.ldMa16_A (s.pc + 3)) s = .next t →
    t.fetch = decode3 s.a (t.readByte (s.pc + 4)) (t.readByte (s.pc + 5)) ∧ t.pc = s.pc + 3

/-! ### Frames: what every instruction leaves -/

/-- Memory after any instruction is memory before it with the instruction's presented writes put through the router in
order; CART never changes. `presentedWrites` computes the addresses and bytes from the state before. -/
def Obligations.MemoryIsPresentedWrites : Prop :=
  ∀ (i : Instr) (s t : State), exec i s = .next t →
    t.cart = s.cart ∧ t.xram = (applyWrites s (presentedWrites i s)).xram ∧
    t.gm = (applyWrites s (presentedWrites i s)).gm

/-- Every address that no presented write targets (R70's table) reads as before. -/
def Obligations.MemoryFrame : Prop :=
  ∀ (i : Instr) (s t : State) (q : Word), exec i s = .next t →
    (∀ w ∈ presentedWrites i s, q ∉ writeTargets w.1) → t.readByte q = s.readByte q

/-- Every register half but the ones the instruction's rule names, and SP but for its writers, is unchanged (R23, R33). -/
def Obligations.RegisterFrame : Prop :=
  ∀ (i : Instr) (s t : State), exec i s = .next t →
    (∀ r : Reg8, writesReg8 (runForm i s) r = false → t.getReg8 r = s.getReg8 r) ∧
    (writesSP (runForm i s) = false → t.sp = s.sp)

/-- Each flag follows its column of the flag table R27: kept, cleared, set, or computed. -/
def Obligations.FlagTable : Prop :=
  ∀ (i : Instr) (s t : State), exec i s = .next t →
    let row := flagRow (runForm i s)
    row.z.holds s.fZ t.fZ ∧ row.n.holds s.fN t.fN ∧ row.h.holds s.fH t.fH ∧ row.c.holds s.fC t.fC

/-- IME is written by EI and RETI (1) and DI (0) only; HALTED is set by HALT only and cleared by no instruction; the
bank registers and bank counts are changed by no instruction (R28 to R31). -/
def Obligations.ControlStateFrame : Prop :=
  ∀ (i : Instr) (s t : State), exec i s = .next t →
    t.ime = (match i with | .ei | .reti => true | .di => false | _ => s.ime) ∧
    t.halted = (s.halted || i == .halt) ∧
    t.romb = s.romb ∧ t.ramb = s.ramb ∧ t.romBanks = s.romBanks ∧ t.ramBanks = s.ramBanks

/-- PC advances by the number of bytes of the instruction, modulo 0x10000, unless the instruction assigns it (R32,
R110). -/
def Obligations.PCAdvances : Prop :=
  ∀ (i : Instr) (s t : State), exec i s = .next t → assignsPC (runForm i s) s = false →
    t.pc = s.pc + BitVec.ofNat 16 (opLength (i.encode.headD 0))

/-- An instruction whose row of R27 reads no flags computes the same from any F: registers, PC, SP, memory and control
state of the outcome do not depend on F. -/
def Obligations.FlagsInfluenceOnlyReaders : Prop :=
  ∀ (i : Instr) (s : State) (x : Byte), readsFlags i.form = false →
    withoutF (exec i { s with f := x }) = withoutF (exec i s)

/-- IME is "Read by no instruction and by no mechanism inside JBCORE": a step from states that differ in IME alone
ends in states that differ at most in IME. -/
def Obligations.InterruptEnableInfluencesNothing : Prop :=
  ∀ (s : State) (x : Bool),
    withoutIME (step { s with ime := x }) = withoutIME (step s) ∧ stepResult { s with ime := x } = stepResult s

/-! ### Reset, host operations and invariants -/

/-- The invariants hold in the state after reset. -/
def Obligations.ResetMeetsInvariant : Prop := State.reset.Inv

/-- Every step keeps the invariants: bits 3..0 of F are 0 (R25), the bank indices are in range (R30, R31), and the
arrays keep their canonical form and extent. -/
def Obligations.StepKeepsInvariant : Prop :=
  ∀ s t : State, s.Inv → step s = .next t → t.Inv

/-- RESET establishes the invariants, whatever its arguments; every step and every host operation keeps them, from every
state that meets them; so every state reachable from a successful RESET meets them. -/
def Obligations.ReachableStatesMeetInvariant : Prop :=
  (∀ (p : ResetParams) (s : State), hostReset p = .ok s → s.Inv) ∧
  (∀ s t : State, s.Inv → Transition s t → t.Inv) ∧
  (∀ s : State, Reachable s → s.Inv)

/-- RESET is refused exactly on a malformed image or a parameter outside its domain. Otherwise it succeeds, with PC at
0x0100, SP at 0xFFFE, IME and HALTED at 0, ROMB at 1, RAMB at 0, the pairs at their parameters with F's low nibble 0,
CART at the image, XRAM at XRAM_INIT, and GM at GM_INIT overlaid by IO_DEFAULTS in table order (R38, R440, R441;
decisions D6, D8, D9, D10, D11, D37; the domain check is log entry 13). GM_INIT and XRAM_INIT are presented by the cells
that differ from the byte an unlisted cell stands for (log entry 3). `State.reset` is what RESET answers on the model's
own parameters (log entries 1 to 3: zero registers, an all-zero image of two banks, one RAM bank, zero memories). -/
def Obligations.ResetOperation : Prop :=
  hostReset ResetParams.default = .ok State.reset ∧
  ∀ p : ResetParams,
    (hostReset p = .error .malformedImage ↔ ¬(2 ≤ p.romBanks ∧ p.image.length = p.romBanks * 0x4000)) ∧
    (hostReset p = .error .badParameter ↔ p.imageValid = true ∧ p.inDomain = false) ∧
    (2 ≤ p.romBanks → p.image.length = p.romBanks * 0x4000 → p.inDomain = true → ∃ s, hostReset p = .ok s ∧
      s.pc = 0x0100 ∧ s.sp = 0xFFFE ∧ s.ime = false ∧ s.halted = false ∧ s.romb = 1 ∧ s.ramb = 0 ∧
      s.af = p.af &&& 0xFFF0 ∧ s.bc = p.bc ∧ s.de = p.de ∧ s.hl = p.hl ∧
      s.romBanks = p.romBanks ∧ s.ramBanks = p.ramBanks ∧
      (∀ k, ∀ lt : k < p.image.length, s.cart.read k = p.image[k]) ∧
      (∀ k, s.xram.read k = (tableByte p.xramInit k).getD Config.unlistedByte) ∧
      (∀ k, s.gm.read k = ((tableByte p.ioDefaults k).or (tableByte p.gmInit k)).getD Config.unlistedByte))

/-- FORCEPC, ROMBANK, RAMBANK and WAKE change one element each; an index out of range is refused; after FORCEPC on a
state whose step was Unimplemented, the next step runs what is at the new PC (R403, R448 to R450). -/
def Obligations.HostOperations : Prop :=
  ∀ (s : State) (addr : Word) (n : Nat),
    forcePC addr s = { s with pc := addr } ∧
    wake s = { s with halted := false } ∧
    (n < s.romBanks → selectRomBank n s = .ok { s with romb := n }) ∧
    (s.romBanks ≤ n → selectRomBank n s = .error .bankOutOfRange) ∧
    (n < s.ramBanks → selectRamBank n s = .ok { s with ramb := n }) ∧
    (s.ramBanks ≤ n → selectRamBank n s = .error .bankOutOfRange) ∧
    (s.halted = false → step (forcePC addr s) =
      exec (decode3 (s.readByte addr) (s.readByte (addr + 1)) (s.readByte (addr + 2))) { s with pc := addr })
end

