-- ==== Sys2Proof/Laws/Decode.lean ====
section
/-! SUPPORT. The decoder by length: what it answers for one, two and three byte instructions, and for a list that ends
too soon (30_encoding.md R101, R122). -/

namespace Sys2Proof

/-- Every instruction is one, two or three bytes long (R101). -/
theorem opLength_cases (b0 : Byte) : opLength b0 = 1 ∨ opLength b0 = 2 ∨ opLength b0 = 3 := by
  unfold opLength
  split
  · exact .inr (.inr rfl)
  split
  · exact .inr (.inl rfl)
  · exact .inl rfl

theorem decode_nil : decode [] = .error .noByte := rfl

theorem decode_one (b0 : Byte) (rest : List Byte) (len : opLength b0 = 1) :
    decode (b0 :: rest) = .ok (decode3 b0 0 0, rest) := by
  simp only [decode, len, if_pos]

theorem decode_two (b0 b1 : Byte) (rest : List Byte) (len : opLength b0 = 2) :
    decode (b0 :: b1 :: rest) = .ok (decode3 b0 b1 0, rest) := by
  simp [decode, len]

theorem decode_three (b0 b1 b2 : Byte) (rest : List Byte) (len : opLength b0 = 3) :
    decode (b0 :: b1 :: b2 :: rest) = .ok (decode3 b0 b1 b2, rest) := by
  simp [decode, len]

theorem decode_truncated_two (b0 : Byte) (len : opLength b0 = 2) : decode [b0] = .error (.truncated b0) := by
  simp [decode, len]

theorem decode_truncated_three (b0 : Byte) (len : opLength b0 = 3) : decode [b0] = .error (.truncated b0) := by
  simp [decode, len]

theorem decode_truncated_three' (b0 b1 : Byte) (len : opLength b0 = 3) : decode [b0, b1] = .error (.truncated b0) := by
  simp [decode, len]

end Sys2Proof
end

