-- ==== Sys2Proof/Laws/State.lean ====
section
/-! SUPPORT. What each update of the state leaves of each field, and what reading a register back gives: later proofs
cite these instead of unfolding an update. -/

namespace Sys2Proof.Machine

variable (s : State)

@[simp] theorem State.setReg8_f (r : Reg8) (v : Byte) : (s.setReg8 r v).f = s.f := by cases r <;> rfl
@[simp] theorem State.setReg8_pc (r : Reg8) (v : Byte) : (s.setReg8 r v).pc = s.pc := by cases r <;> rfl
@[simp] theorem State.setReg8_sp (r : Reg8) (v : Byte) : (s.setReg8 r v).sp = s.sp := by cases r <;> rfl
@[simp] theorem State.setReg8_ime (r : Reg8) (v : Byte) : (s.setReg8 r v).ime = s.ime := by cases r <;> rfl
@[simp] theorem State.setReg8_halted (r : Reg8) (v : Byte) : (s.setReg8 r v).halted = s.halted := by cases r <;> rfl
@[simp] theorem State.setReg8_romb (r : Reg8) (v : Byte) : (s.setReg8 r v).romb = s.romb := by cases r <;> rfl
@[simp] theorem State.setReg8_ramb (r : Reg8) (v : Byte) : (s.setReg8 r v).ramb = s.ramb := by cases r <;> rfl
@[simp] theorem State.setReg8_romBanks (r : Reg8) (v : Byte) : (s.setReg8 r v).romBanks = s.romBanks := by cases r <;> rfl
@[simp] theorem State.setReg8_ramBanks (r : Reg8) (v : Byte) : (s.setReg8 r v).ramBanks = s.ramBanks := by cases r <;> rfl
@[simp] theorem State.setReg8_cart (r : Reg8) (v : Byte) : (s.setReg8 r v).cart = s.cart := by cases r <;> rfl
@[simp] theorem State.setReg8_xram (r : Reg8) (v : Byte) : (s.setReg8 r v).xram = s.xram := by cases r <;> rfl
@[simp] theorem State.setReg8_gm (r : Reg8) (v : Byte) : (s.setReg8 r v).gm = s.gm := by cases r <;> rfl

@[simp] theorem State.getReg8_setReg8_same (r : Reg8) (v : Byte) : (s.setReg8 r v).getReg8 r = v := by cases r <;> rfl
theorem State.getReg8_setReg8_other (r q : Reg8) (v : Byte) (ne : q ≠ r) : (s.setReg8 r v).getReg8 q = s.getReg8 q := by
  cases r <;> cases q <;> first | rfl | exact absurd rfl ne

@[simp] theorem State.setBC_a (v : Word) : (s.setBC v).a = s.a := rfl
@[simp] theorem State.setBC_f (v : Word) : (s.setBC v).f = s.f := rfl
@[simp] theorem State.setBC_d (v : Word) : (s.setBC v).d = s.d := rfl
@[simp] theorem State.setBC_e (v : Word) : (s.setBC v).e = s.e := rfl
@[simp] theorem State.setBC_h (v : Word) : (s.setBC v).h = s.h := rfl
@[simp] theorem State.setBC_l (v : Word) : (s.setBC v).l = s.l := rfl
@[simp] theorem State.setBC_pc (v : Word) : (s.setBC v).pc = s.pc := rfl
@[simp] theorem State.setBC_sp (v : Word) : (s.setBC v).sp = s.sp := rfl
@[simp] theorem State.setBC_ime (v : Word) : (s.setBC v).ime = s.ime := rfl
@[simp] theorem State.setBC_halted (v : Word) : (s.setBC v).halted = s.halted := rfl
@[simp] theorem State.setBC_romb (v : Word) : (s.setBC v).romb = s.romb := rfl
@[simp] theorem State.setBC_ramb (v : Word) : (s.setBC v).ramb = s.ramb := rfl
@[simp] theorem State.setBC_romBanks (v : Word) : (s.setBC v).romBanks = s.romBanks := rfl
@[simp] theorem State.setBC_ramBanks (v : Word) : (s.setBC v).ramBanks = s.ramBanks := rfl
@[simp] theorem State.setBC_cart (v : Word) : (s.setBC v).cart = s.cart := rfl
@[simp] theorem State.setBC_xram (v : Word) : (s.setBC v).xram = s.xram := rfl
@[simp] theorem State.setBC_gm (v : Word) : (s.setBC v).gm = s.gm := rfl

@[simp] theorem State.setBC_b (v : Word) : (s.setBC v).b = hiByte v := rfl
@[simp] theorem State.setBC_c (v : Word) : (s.setBC v).c = loByte v := rfl

@[simp] theorem State.setDE_a (v : Word) : (s.setDE v).a = s.a := rfl
@[simp] theorem State.setDE_f (v : Word) : (s.setDE v).f = s.f := rfl
@[simp] theorem State.setDE_b (v : Word) : (s.setDE v).b = s.b := rfl
@[simp] theorem State.setDE_c (v : Word) : (s.setDE v).c = s.c := rfl
@[simp] theorem State.setDE_h (v : Word) : (s.setDE v).h = s.h := rfl
@[simp] theorem State.setDE_l (v : Word) : (s.setDE v).l = s.l := rfl
@[simp] theorem State.setDE_pc (v : Word) : (s.setDE v).pc = s.pc := rfl
@[simp] theorem State.setDE_sp (v : Word) : (s.setDE v).sp = s.sp := rfl
@[simp] theorem State.setDE_ime (v : Word) : (s.setDE v).ime = s.ime := rfl
@[simp] theorem State.setDE_halted (v : Word) : (s.setDE v).halted = s.halted := rfl
@[simp] theorem State.setDE_romb (v : Word) : (s.setDE v).romb = s.romb := rfl
@[simp] theorem State.setDE_ramb (v : Word) : (s.setDE v).ramb = s.ramb := rfl
@[simp] theorem State.setDE_romBanks (v : Word) : (s.setDE v).romBanks = s.romBanks := rfl
@[simp] theorem State.setDE_ramBanks (v : Word) : (s.setDE v).ramBanks = s.ramBanks := rfl
@[simp] theorem State.setDE_cart (v : Word) : (s.setDE v).cart = s.cart := rfl
@[simp] theorem State.setDE_xram (v : Word) : (s.setDE v).xram = s.xram := rfl
@[simp] theorem State.setDE_gm (v : Word) : (s.setDE v).gm = s.gm := rfl

@[simp] theorem State.setDE_d (v : Word) : (s.setDE v).d = hiByte v := rfl
@[simp] theorem State.setDE_e (v : Word) : (s.setDE v).e = loByte v := rfl

@[simp] theorem State.setHL_a (v : Word) : (s.setHL v).a = s.a := rfl
@[simp] theorem State.setHL_f (v : Word) : (s.setHL v).f = s.f := rfl
@[simp] theorem State.setHL_b (v : Word) : (s.setHL v).b = s.b := rfl
@[simp] theorem State.setHL_c (v : Word) : (s.setHL v).c = s.c := rfl
@[simp] theorem State.setHL_d (v : Word) : (s.setHL v).d = s.d := rfl
@[simp] theorem State.setHL_e (v : Word) : (s.setHL v).e = s.e := rfl
@[simp] theorem State.setHL_pc (v : Word) : (s.setHL v).pc = s.pc := rfl
@[simp] theorem State.setHL_sp (v : Word) : (s.setHL v).sp = s.sp := rfl
@[simp] theorem State.setHL_ime (v : Word) : (s.setHL v).ime = s.ime := rfl
@[simp] theorem State.setHL_halted (v : Word) : (s.setHL v).halted = s.halted := rfl
@[simp] theorem State.setHL_romb (v : Word) : (s.setHL v).romb = s.romb := rfl
@[simp] theorem State.setHL_ramb (v : Word) : (s.setHL v).ramb = s.ramb := rfl
@[simp] theorem State.setHL_romBanks (v : Word) : (s.setHL v).romBanks = s.romBanks := rfl
@[simp] theorem State.setHL_ramBanks (v : Word) : (s.setHL v).ramBanks = s.ramBanks := rfl
@[simp] theorem State.setHL_cart (v : Word) : (s.setHL v).cart = s.cart := rfl
@[simp] theorem State.setHL_xram (v : Word) : (s.setHL v).xram = s.xram := rfl
@[simp] theorem State.setHL_gm (v : Word) : (s.setHL v).gm = s.gm := rfl

@[simp] theorem State.setHL_h (v : Word) : (s.setHL v).h = hiByte v := rfl
@[simp] theorem State.setHL_l (v : Word) : (s.setHL v).l = loByte v := rfl

@[simp] theorem State.setAF_b (v : Word) : (s.setAF v).b = s.b := rfl
@[simp] theorem State.setAF_c (v : Word) : (s.setAF v).c = s.c := rfl
@[simp] theorem State.setAF_d (v : Word) : (s.setAF v).d = s.d := rfl
@[simp] theorem State.setAF_e (v : Word) : (s.setAF v).e = s.e := rfl
@[simp] theorem State.setAF_h (v : Word) : (s.setAF v).h = s.h := rfl
@[simp] theorem State.setAF_l (v : Word) : (s.setAF v).l = s.l := rfl
@[simp] theorem State.setAF_pc (v : Word) : (s.setAF v).pc = s.pc := rfl
@[simp] theorem State.setAF_sp (v : Word) : (s.setAF v).sp = s.sp := rfl
@[simp] theorem State.setAF_ime (v : Word) : (s.setAF v).ime = s.ime := rfl
@[simp] theorem State.setAF_halted (v : Word) : (s.setAF v).halted = s.halted := rfl
@[simp] theorem State.setAF_romb (v : Word) : (s.setAF v).romb = s.romb := rfl
@[simp] theorem State.setAF_ramb (v : Word) : (s.setAF v).ramb = s.ramb := rfl
@[simp] theorem State.setAF_romBanks (v : Word) : (s.setAF v).romBanks = s.romBanks := rfl
@[simp] theorem State.setAF_ramBanks (v : Word) : (s.setAF v).ramBanks = s.ramBanks := rfl
@[simp] theorem State.setAF_cart (v : Word) : (s.setAF v).cart = s.cart := rfl
@[simp] theorem State.setAF_xram (v : Word) : (s.setAF v).xram = s.xram := rfl
@[simp] theorem State.setAF_gm (v : Word) : (s.setAF v).gm = s.gm := rfl

@[simp] theorem State.setAF_a (v : Word) : (s.setAF v).a = hiByte v := rfl
@[simp] theorem State.setAF_f (v : Word) : (s.setAF v).f = loByte v &&& 0xF0 := rfl

@[simp] theorem State.setReg16_a (p : Reg16) (v : Word) : (s.setReg16 p v).a = s.a := by cases p <;> rfl
@[simp] theorem State.setReg16_f (p : Reg16) (v : Word) : (s.setReg16 p v).f = s.f := by cases p <;> rfl
@[simp] theorem State.setReg16_pc (p : Reg16) (v : Word) : (s.setReg16 p v).pc = s.pc := by cases p <;> rfl
@[simp] theorem State.setReg16_ime (p : Reg16) (v : Word) : (s.setReg16 p v).ime = s.ime := by cases p <;> rfl
@[simp] theorem State.setReg16_halted (p : Reg16) (v : Word) : (s.setReg16 p v).halted = s.halted := by cases p <;> rfl
@[simp] theorem State.setReg16_romb (p : Reg16) (v : Word) : (s.setReg16 p v).romb = s.romb := by cases p <;> rfl
@[simp] theorem State.setReg16_ramb (p : Reg16) (v : Word) : (s.setReg16 p v).ramb = s.ramb := by cases p <;> rfl
@[simp] theorem State.setReg16_romBanks (p : Reg16) (v : Word) : (s.setReg16 p v).romBanks = s.romBanks := by cases p <;> rfl
@[simp] theorem State.setReg16_ramBanks (p : Reg16) (v : Word) : (s.setReg16 p v).ramBanks = s.ramBanks := by cases p <;> rfl
@[simp] theorem State.setReg16_cart (p : Reg16) (v : Word) : (s.setReg16 p v).cart = s.cart := by cases p <;> rfl
@[simp] theorem State.setReg16_xram (p : Reg16) (v : Word) : (s.setReg16 p v).xram = s.xram := by cases p <;> rfl
@[simp] theorem State.setReg16_gm (p : Reg16) (v : Word) : (s.setReg16 p v).gm = s.gm := by cases p <;> rfl

@[simp] theorem State.setStk_pc (p : RegStk) (v : Word) : (s.setStk p v).pc = s.pc := by cases p <;> rfl
@[simp] theorem State.setStk_sp (p : RegStk) (v : Word) : (s.setStk p v).sp = s.sp := by cases p <;> rfl
@[simp] theorem State.setStk_ime (p : RegStk) (v : Word) : (s.setStk p v).ime = s.ime := by cases p <;> rfl
@[simp] theorem State.setStk_halted (p : RegStk) (v : Word) : (s.setStk p v).halted = s.halted := by cases p <;> rfl
@[simp] theorem State.setStk_romb (p : RegStk) (v : Word) : (s.setStk p v).romb = s.romb := by cases p <;> rfl
@[simp] theorem State.setStk_ramb (p : RegStk) (v : Word) : (s.setStk p v).ramb = s.ramb := by cases p <;> rfl
@[simp] theorem State.setStk_romBanks (p : RegStk) (v : Word) : (s.setStk p v).romBanks = s.romBanks := by cases p <;> rfl
@[simp] theorem State.setStk_ramBanks (p : RegStk) (v : Word) : (s.setStk p v).ramBanks = s.ramBanks := by cases p <;> rfl
@[simp] theorem State.setStk_cart (p : RegStk) (v : Word) : (s.setStk p v).cart = s.cart := by cases p <;> rfl
@[simp] theorem State.setStk_xram (p : RegStk) (v : Word) : (s.setStk p v).xram = s.xram := by cases p <;> rfl
@[simp] theorem State.setStk_gm (p : RegStk) (v : Word) : (s.setStk p v).gm = s.gm := by cases p <;> rfl

@[simp] theorem State.flags_a (z n h c : Option Bool) : (s.flags z n h c).a = s.a := rfl
@[simp] theorem State.flags_b (z n h c : Option Bool) : (s.flags z n h c).b = s.b := rfl
@[simp] theorem State.flags_c (z n h c : Option Bool) : (s.flags z n h c).c = s.c := rfl
@[simp] theorem State.flags_d (z n h c : Option Bool) : (s.flags z n h c).d = s.d := rfl
@[simp] theorem State.flags_e (z n h c : Option Bool) : (s.flags z n h c).e = s.e := rfl
@[simp] theorem State.flags_h (z n h c : Option Bool) : (s.flags z n h c).h = s.h := rfl
@[simp] theorem State.flags_l (z n h c : Option Bool) : (s.flags z n h c).l = s.l := rfl
@[simp] theorem State.flags_pc (z n h c : Option Bool) : (s.flags z n h c).pc = s.pc := rfl
@[simp] theorem State.flags_sp (z n h c : Option Bool) : (s.flags z n h c).sp = s.sp := rfl
@[simp] theorem State.flags_ime (z n h c : Option Bool) : (s.flags z n h c).ime = s.ime := rfl
@[simp] theorem State.flags_halted (z n h c : Option Bool) : (s.flags z n h c).halted = s.halted := rfl
@[simp] theorem State.flags_romb (z n h c : Option Bool) : (s.flags z n h c).romb = s.romb := rfl
@[simp] theorem State.flags_ramb (z n h c : Option Bool) : (s.flags z n h c).ramb = s.ramb := rfl
@[simp] theorem State.flags_romBanks (z n h c : Option Bool) : (s.flags z n h c).romBanks = s.romBanks := rfl
@[simp] theorem State.flags_ramBanks (z n h c : Option Bool) : (s.flags z n h c).ramBanks = s.ramBanks := rfl
@[simp] theorem State.flags_cart (z n h c : Option Bool) : (s.flags z n h c).cart = s.cart := rfl
@[simp] theorem State.flags_xram (z n h c : Option Bool) : (s.flags z n h c).xram = s.xram := rfl
@[simp] theorem State.flags_gm (z n h c : Option Bool) : (s.flags z n h c).gm = s.gm := rfl

@[simp] theorem State.flags_f (z n h c : Option Bool) :
    (s.flags z n h c).f = flagByte (z.getD s.fZ) (n.getD s.fN) (h.getD s.fH) (c.getD s.fC) := rfl

@[simp] theorem State.writeByte_a (addr : Word) (v : Byte) : (s.writeByte addr v).a = s.a := by
  unfold State.writeByte; dsimp only; repeat (first | rfl | split)
@[simp] theorem State.writeByte_f (addr : Word) (v : Byte) : (s.writeByte addr v).f = s.f := by
  unfold State.writeByte; dsimp only; repeat (first | rfl | split)
@[simp] theorem State.writeByte_b (addr : Word) (v : Byte) : (s.writeByte addr v).b = s.b := by
  unfold State.writeByte; dsimp only; repeat (first | rfl | split)
@[simp] theorem State.writeByte_c (addr : Word) (v : Byte) : (s.writeByte addr v).c = s.c := by
  unfold State.writeByte; dsimp only; repeat (first | rfl | split)
@[simp] theorem State.writeByte_d (addr : Word) (v : Byte) : (s.writeByte addr v).d = s.d := by
  unfold State.writeByte; dsimp only; repeat (first | rfl | split)
@[simp] theorem State.writeByte_e (addr : Word) (v : Byte) : (s.writeByte addr v).e = s.e := by
  unfold State.writeByte; dsimp only; repeat (first | rfl | split)
@[simp] theorem State.writeByte_h (addr : Word) (v : Byte) : (s.writeByte addr v).h = s.h := by
  unfold State.writeByte; dsimp only; repeat (first | rfl | split)
@[simp] theorem State.writeByte_l (addr : Word) (v : Byte) : (s.writeByte addr v).l = s.l := by
  unfold State.writeByte; dsimp only; repeat (first | rfl | split)
@[simp] theorem State.writeByte_pc (addr : Word) (v : Byte) : (s.writeByte addr v).pc = s.pc := by
  unfold State.writeByte; dsimp only; repeat (first | rfl | split)
@[simp] theorem State.writeByte_sp (addr : Word) (v : Byte) : (s.writeByte addr v).sp = s.sp := by
  unfold State.writeByte; dsimp only; repeat (first | rfl | split)
@[simp] theorem State.writeByte_ime (addr : Word) (v : Byte) : (s.writeByte addr v).ime = s.ime := by
  unfold State.writeByte; dsimp only; repeat (first | rfl | split)
@[simp] theorem State.writeByte_halted (addr : Word) (v : Byte) : (s.writeByte addr v).halted = s.halted := by
  unfold State.writeByte; dsimp only; repeat (first | rfl | split)
@[simp] theorem State.writeByte_romb (addr : Word) (v : Byte) : (s.writeByte addr v).romb = s.romb := by
  unfold State.writeByte; dsimp only; repeat (first | rfl | split)
@[simp] theorem State.writeByte_ramb (addr : Word) (v : Byte) : (s.writeByte addr v).ramb = s.ramb := by
  unfold State.writeByte; dsimp only; repeat (first | rfl | split)
@[simp] theorem State.writeByte_romBanks (addr : Word) (v : Byte) : (s.writeByte addr v).romBanks = s.romBanks := by
  unfold State.writeByte; dsimp only; repeat (first | rfl | split)
@[simp] theorem State.writeByte_ramBanks (addr : Word) (v : Byte) : (s.writeByte addr v).ramBanks = s.ramBanks := by
  unfold State.writeByte; dsimp only; repeat (first | rfl | split)
@[simp] theorem State.writeByte_cart (addr : Word) (v : Byte) : (s.writeByte addr v).cart = s.cart := by
  unfold State.writeByte; dsimp only; repeat (first | rfl | split)

@[simp] theorem State.writeWord_a (addr v : Word) : (s.writeWord addr v).a = s.a := by simp [State.writeWord]
@[simp] theorem State.writeWord_f (addr v : Word) : (s.writeWord addr v).f = s.f := by simp [State.writeWord]
@[simp] theorem State.writeWord_b (addr v : Word) : (s.writeWord addr v).b = s.b := by simp [State.writeWord]
@[simp] theorem State.writeWord_c (addr v : Word) : (s.writeWord addr v).c = s.c := by simp [State.writeWord]
@[simp] theorem State.writeWord_d (addr v : Word) : (s.writeWord addr v).d = s.d := by simp [State.writeWord]
@[simp] theorem State.writeWord_e (addr v : Word) : (s.writeWord addr v).e = s.e := by simp [State.writeWord]
@[simp] theorem State.writeWord_h (addr v : Word) : (s.writeWord addr v).h = s.h := by simp [State.writeWord]
@[simp] theorem State.writeWord_l (addr v : Word) : (s.writeWord addr v).l = s.l := by simp [State.writeWord]
@[simp] theorem State.writeWord_pc (addr v : Word) : (s.writeWord addr v).pc = s.pc := by simp [State.writeWord]
@[simp] theorem State.writeWord_sp (addr v : Word) : (s.writeWord addr v).sp = s.sp := by simp [State.writeWord]
@[simp] theorem State.writeWord_ime (addr v : Word) : (s.writeWord addr v).ime = s.ime := by simp [State.writeWord]
@[simp] theorem State.writeWord_halted (addr v : Word) : (s.writeWord addr v).halted = s.halted := by simp [State.writeWord]
@[simp] theorem State.writeWord_romb (addr v : Word) : (s.writeWord addr v).romb = s.romb := by simp [State.writeWord]
@[simp] theorem State.writeWord_ramb (addr v : Word) : (s.writeWord addr v).ramb = s.ramb := by simp [State.writeWord]
@[simp] theorem State.writeWord_romBanks (addr v : Word) : (s.writeWord addr v).romBanks = s.romBanks := by simp [State.writeWord]
@[simp] theorem State.writeWord_ramBanks (addr v : Word) : (s.writeWord addr v).ramBanks = s.ramBanks := by simp [State.writeWord]
@[simp] theorem State.writeWord_cart (addr v : Word) : (s.writeWord addr v).cart = s.cart := by simp [State.writeWord]

@[simp] theorem State.push16_a (w : Word) : (s.push16 w).a = s.a := by simp [State.push16]
@[simp] theorem State.push16_f (w : Word) : (s.push16 w).f = s.f := by simp [State.push16]
@[simp] theorem State.push16_b (w : Word) : (s.push16 w).b = s.b := by simp [State.push16]
@[simp] theorem State.push16_c (w : Word) : (s.push16 w).c = s.c := by simp [State.push16]
@[simp] theorem State.push16_d (w : Word) : (s.push16 w).d = s.d := by simp [State.push16]
@[simp] theorem State.push16_e (w : Word) : (s.push16 w).e = s.e := by simp [State.push16]
@[simp] theorem State.push16_h (w : Word) : (s.push16 w).h = s.h := by simp [State.push16]
@[simp] theorem State.push16_l (w : Word) : (s.push16 w).l = s.l := by simp [State.push16]
@[simp] theorem State.push16_pc (w : Word) : (s.push16 w).pc = s.pc := by simp [State.push16]
@[simp] theorem State.push16_ime (w : Word) : (s.push16 w).ime = s.ime := by simp [State.push16]
@[simp] theorem State.push16_halted (w : Word) : (s.push16 w).halted = s.halted := by simp [State.push16]
@[simp] theorem State.push16_romb (w : Word) : (s.push16 w).romb = s.romb := by simp [State.push16]
@[simp] theorem State.push16_ramb (w : Word) : (s.push16 w).ramb = s.ramb := by simp [State.push16]
@[simp] theorem State.push16_romBanks (w : Word) : (s.push16 w).romBanks = s.romBanks := by simp [State.push16]
@[simp] theorem State.push16_ramBanks (w : Word) : (s.push16 w).ramBanks = s.ramBanks := by simp [State.push16]
@[simp] theorem State.push16_cart (w : Word) : (s.push16 w).cart = s.cart := by simp [State.push16]

@[simp] theorem State.push16_sp (w : Word) : (s.push16 w).sp = s.sp - 2 := rfl

@[simp] theorem State.dropTop_a : (s.dropTop).a = s.a := rfl
@[simp] theorem State.dropTop_f : (s.dropTop).f = s.f := rfl
@[simp] theorem State.dropTop_b : (s.dropTop).b = s.b := rfl
@[simp] theorem State.dropTop_c : (s.dropTop).c = s.c := rfl
@[simp] theorem State.dropTop_d : (s.dropTop).d = s.d := rfl
@[simp] theorem State.dropTop_e : (s.dropTop).e = s.e := rfl
@[simp] theorem State.dropTop_h : (s.dropTop).h = s.h := rfl
@[simp] theorem State.dropTop_l : (s.dropTop).l = s.l := rfl
@[simp] theorem State.dropTop_pc : (s.dropTop).pc = s.pc := rfl
@[simp] theorem State.dropTop_ime : (s.dropTop).ime = s.ime := rfl
@[simp] theorem State.dropTop_halted : (s.dropTop).halted = s.halted := rfl
@[simp] theorem State.dropTop_romb : (s.dropTop).romb = s.romb := rfl
@[simp] theorem State.dropTop_ramb : (s.dropTop).ramb = s.ramb := rfl
@[simp] theorem State.dropTop_romBanks : (s.dropTop).romBanks = s.romBanks := rfl
@[simp] theorem State.dropTop_ramBanks : (s.dropTop).ramBanks = s.ramBanks := rfl
@[simp] theorem State.dropTop_cart : (s.dropTop).cart = s.cart := rfl
@[simp] theorem State.dropTop_xram : (s.dropTop).xram = s.xram := rfl
@[simp] theorem State.dropTop_gm : (s.dropTop).gm = s.gm := rfl

@[simp] theorem State.dropTop_sp : s.dropTop.sp = s.sp + 2 := rfl

@[simp] theorem State.setLoc_f (x : Loc8) (v : Byte) : (s.setLoc x v).f = s.f := by
  cases x <;> simp [State.setLoc]
@[simp] theorem State.setLoc_pc (x : Loc8) (v : Byte) : (s.setLoc x v).pc = s.pc := by
  cases x <;> simp [State.setLoc]
@[simp] theorem State.setLoc_sp (x : Loc8) (v : Byte) : (s.setLoc x v).sp = s.sp := by
  cases x <;> simp [State.setLoc]
@[simp] theorem State.setLoc_ime (x : Loc8) (v : Byte) : (s.setLoc x v).ime = s.ime := by
  cases x <;> simp [State.setLoc]
@[simp] theorem State.setLoc_halted (x : Loc8) (v : Byte) : (s.setLoc x v).halted = s.halted := by
  cases x <;> simp [State.setLoc]
@[simp] theorem State.setLoc_romb (x : Loc8) (v : Byte) : (s.setLoc x v).romb = s.romb := by
  cases x <;> simp [State.setLoc]
@[simp] theorem State.setLoc_ramb (x : Loc8) (v : Byte) : (s.setLoc x v).ramb = s.ramb := by
  cases x <;> simp [State.setLoc]
@[simp] theorem State.setLoc_romBanks (x : Loc8) (v : Byte) : (s.setLoc x v).romBanks = s.romBanks := by
  cases x <;> simp [State.setLoc]
@[simp] theorem State.setLoc_ramBanks (x : Loc8) (v : Byte) : (s.setLoc x v).ramBanks = s.ramBanks := by
  cases x <;> simp [State.setLoc]
@[simp] theorem State.setLoc_cart (x : Loc8) (v : Byte) : (s.setLoc x v).cart = s.cart := by
  cases x <;> simp [State.setLoc]

@[simp] theorem State.ptrAfter_a (m : MemPtr) : (s.ptrAfter m).a = s.a := by cases m <;> rfl
@[simp] theorem State.ptrAfter_f (m : MemPtr) : (s.ptrAfter m).f = s.f := by cases m <;> rfl
@[simp] theorem State.ptrAfter_b (m : MemPtr) : (s.ptrAfter m).b = s.b := by cases m <;> rfl
@[simp] theorem State.ptrAfter_c (m : MemPtr) : (s.ptrAfter m).c = s.c := by cases m <;> rfl
@[simp] theorem State.ptrAfter_d (m : MemPtr) : (s.ptrAfter m).d = s.d := by cases m <;> rfl
@[simp] theorem State.ptrAfter_e (m : MemPtr) : (s.ptrAfter m).e = s.e := by cases m <;> rfl
@[simp] theorem State.ptrAfter_pc (m : MemPtr) : (s.ptrAfter m).pc = s.pc := by cases m <;> rfl
@[simp] theorem State.ptrAfter_sp (m : MemPtr) : (s.ptrAfter m).sp = s.sp := by cases m <;> rfl
@[simp] theorem State.ptrAfter_ime (m : MemPtr) : (s.ptrAfter m).ime = s.ime := by cases m <;> rfl
@[simp] theorem State.ptrAfter_halted (m : MemPtr) : (s.ptrAfter m).halted = s.halted := by cases m <;> rfl
@[simp] theorem State.ptrAfter_romb (m : MemPtr) : (s.ptrAfter m).romb = s.romb := by cases m <;> rfl
@[simp] theorem State.ptrAfter_ramb (m : MemPtr) : (s.ptrAfter m).ramb = s.ramb := by cases m <;> rfl
@[simp] theorem State.ptrAfter_romBanks (m : MemPtr) : (s.ptrAfter m).romBanks = s.romBanks := by cases m <;> rfl
@[simp] theorem State.ptrAfter_ramBanks (m : MemPtr) : (s.ptrAfter m).ramBanks = s.ramBanks := by cases m <;> rfl
@[simp] theorem State.ptrAfter_cart (m : MemPtr) : (s.ptrAfter m).cart = s.cart := by cases m <;> rfl
@[simp] theorem State.ptrAfter_xram (m : MemPtr) : (s.ptrAfter m).xram = s.xram := by cases m <;> rfl
@[simp] theorem State.ptrAfter_gm (m : MemPtr) : (s.ptrAfter m).gm = s.gm := by cases m <;> rfl

@[simp] theorem State.poke_a (addr : Word) (v : Byte) : (s.poke addr v).a = s.a := by
  unfold State.poke; dsimp only; repeat (first | rfl | split)
@[simp] theorem State.poke_f (addr : Word) (v : Byte) : (s.poke addr v).f = s.f := by
  unfold State.poke; dsimp only; repeat (first | rfl | split)
@[simp] theorem State.poke_b (addr : Word) (v : Byte) : (s.poke addr v).b = s.b := by
  unfold State.poke; dsimp only; repeat (first | rfl | split)
@[simp] theorem State.poke_c (addr : Word) (v : Byte) : (s.poke addr v).c = s.c := by
  unfold State.poke; dsimp only; repeat (first | rfl | split)
@[simp] theorem State.poke_d (addr : Word) (v : Byte) : (s.poke addr v).d = s.d := by
  unfold State.poke; dsimp only; repeat (first | rfl | split)
@[simp] theorem State.poke_e (addr : Word) (v : Byte) : (s.poke addr v).e = s.e := by
  unfold State.poke; dsimp only; repeat (first | rfl | split)
@[simp] theorem State.poke_h (addr : Word) (v : Byte) : (s.poke addr v).h = s.h := by
  unfold State.poke; dsimp only; repeat (first | rfl | split)
@[simp] theorem State.poke_l (addr : Word) (v : Byte) : (s.poke addr v).l = s.l := by
  unfold State.poke; dsimp only; repeat (first | rfl | split)
@[simp] theorem State.poke_pc (addr : Word) (v : Byte) : (s.poke addr v).pc = s.pc := by
  unfold State.poke; dsimp only; repeat (first | rfl | split)
@[simp] theorem State.poke_sp (addr : Word) (v : Byte) : (s.poke addr v).sp = s.sp := by
  unfold State.poke; dsimp only; repeat (first | rfl | split)
@[simp] theorem State.poke_ime (addr : Word) (v : Byte) : (s.poke addr v).ime = s.ime := by
  unfold State.poke; dsimp only; repeat (first | rfl | split)
@[simp] theorem State.poke_halted (addr : Word) (v : Byte) : (s.poke addr v).halted = s.halted := by
  unfold State.poke; dsimp only; repeat (first | rfl | split)
@[simp] theorem State.poke_romb (addr : Word) (v : Byte) : (s.poke addr v).romb = s.romb := by
  unfold State.poke; dsimp only; repeat (first | rfl | split)
@[simp] theorem State.poke_ramb (addr : Word) (v : Byte) : (s.poke addr v).ramb = s.ramb := by
  unfold State.poke; dsimp only; repeat (first | rfl | split)
@[simp] theorem State.poke_romBanks (addr : Word) (v : Byte) : (s.poke addr v).romBanks = s.romBanks := by
  unfold State.poke; dsimp only; repeat (first | rfl | split)
@[simp] theorem State.poke_ramBanks (addr : Word) (v : Byte) : (s.poke addr v).ramBanks = s.ramBanks := by
  unfold State.poke; dsimp only; repeat (first | rfl | split)

end Sys2Proof.Machine
end

