-- ==== Sys2Proof/Laws/Flags.lean ====
section
/-! SUPPORT. F as the byte of its four flags (10_state.md R24 to R26), and the eight operations' small facts. -/

namespace Sys2Proof.Machine

theorem flagByte_bit7 (z n h c : Bool) : (flagByte z n h c).getLsbD 7 = z := by revert z n h c; decide
theorem flagByte_bit6 (z n h c : Bool) : (flagByte z n h c).getLsbD 6 = n := by revert z n h c; decide
theorem flagByte_bit5 (z n h c : Bool) : (flagByte z n h c).getLsbD 5 = h := by revert z n h c; decide
theorem flagByte_bit4 (z n h c : Bool) : (flagByte z n h c).getLsbD 4 = c := by revert z n h c; decide

/-- Bits 3..0 of a flag byte are 0 (R9, R25). -/
@[simp] theorem flagByte_low (z n h c : Bool) : flagByte z n h c &&& 0x0F = 0 := by revert z n h c; decide

@[simp] theorem flagByte_mask (z n h c : Bool) : flagByte z n h c &&& 0xF0 = flagByte z n h c := by
  revert z n h c; decide

/-- A byte with bits 3..0 at 0 is the byte of its flags: there is no other storage (R26). -/
theorem flagByte_of_bits (f : Byte) (low : f &&& 0x0F = 0) :
    flagByte (f.getLsbD 7) (f.getLsbD 6) (f.getLsbD 5) (f.getLsbD 4) = f := by revert f; decide

/-- Masking with 0xF0 clears bits 3..0 and keeps the flags (R352). -/
theorem mask_low (f : Byte) : (f &&& 0xF0) &&& 0x0F = 0 := by revert f; decide

theorem mask_of_low (f : Byte) (low : f &&& 0x0F = 0) : f &&& 0xF0 = f := by revert f; decide

@[simp] theorem State.flags_fZ (s : State) (z n h c : Option Bool) : (s.flags z n h c).fZ = z.getD s.fZ := by
  exact flagByte_bit7 _ _ _ _
@[simp] theorem State.flags_fN (s : State) (z n h c : Option Bool) : (s.flags z n h c).fN = n.getD s.fN := by
  exact flagByte_bit6 _ _ _ _
@[simp] theorem State.flags_fH (s : State) (z n h c : Option Bool) : (s.flags z n h c).fH = h.getD s.fH := by
  exact flagByte_bit5 _ _ _ _
@[simp] theorem State.flags_fC (s : State) (z n h c : Option Bool) : (s.flags z n h c).fC = c.getD s.fC := by
  exact flagByte_bit4 _ _ _ _

theorem lowNibble_eq_and (x : Byte) : lowNibble x = (x &&& 0x0F).toNat := by revert x; decide

/-- The difference of R203 and R204 is subtraction modulo 256. -/
theorem subBytes_val (a x : Byte) (cin : Bool) : (subBytes a x cin).val = a - x - bitByte cin := by
  have ha := a.isLt
  have hx := x.isLt
  apply BitVec.eq_of_toNat_eq
  cases cin <;> simp [subBytes, carryNat, bitByte, BitVec.toNat_sub] <;> omega

/-- The sum of R201 and R202 is addition modulo 256. -/
theorem addBytes_val (a x : Byte) (cin : Bool) : (addBytes a x cin).val = a + x + bitByte cin := by
  have ha := a.isLt
  have hx := x.isLt
  apply BitVec.eq_of_toNat_eq
  cases cin <;> simp [addBytes, carryNat, bitByte, BitVec.toNat_add]

/-- The sum of R230 and R231 is addition modulo 0x10000. -/
theorem addWords_val (x y : Word) : (addWords x y).val = x + y := by
  apply BitVec.eq_of_toNat_eq
  simp [addWords, BitVec.toNat_add]

/-- Z of a sum is read off the sum modulo 256 (R201, R202). -/
theorem addBytes_z (a x : Byte) (cin : Bool) : (addBytes a x cin).z = (a + x + bitByte cin == 0) := by
  rw [← addBytes_val]; rfl

/-- Z of a difference is read off the difference modulo 256 (R203, R204). -/
theorem subBytes_z (a x : Byte) (cin : Bool) : (subBytes a x cin).z = (a - x - bitByte cin == 0) := by
  rw [← subBytes_val]; rfl

/-- A difference is zero exactly for equal operands: Z of `CP` (R208). -/
theorem sub_beq_zero (a x : Byte) : (a - x == 0) = (a == x) := by
  rw [Bool.eq_iff_iff]
  simp only [beq_iff_eq]
  exact BitVec.sub_eq_iff_eq_add.trans (by simp)

end Sys2Proof.Machine
end

