-- ==== Sys2Proof/Laws/Memory.lean ====
section
/-! SUPPORT. The storage arrays: reading after writing, the canonical form that every write keeps, and that arrays in
canonical form which read alike are equal. -/

namespace Sys2Proof.Machine.Memory

@[simp] theorem read_nil (k : Nat) : Memory.read [] k = Config.unlistedByte := rfl

theorem within_nil (n : Nat) : Memory.within [] n = true := rfl

theorem within_cons (j : Nat) (v : Byte) (rest : Memory) (n : Nat) :
    Memory.within ((j, v) :: rest) n = true ↔ j < n ∧ rest.within n = true := by
  simp only [Memory.within, List.all_cons, Bool.and_eq_true, decide_eq_true_eq]

/-- Below the smallest index a canonical array lists, it reads unlisted. -/
theorem read_below (m : Memory) (lo k : Nat) (wf : m.wfFrom lo = true) (below : k < lo) :
    m.read k = Config.unlistedByte := by
  induction m generalizing lo with
  | nil => rfl
  | cons cell rest ih =>
    obtain ⟨j, v⟩ := cell
    simp only [Memory.wfFrom, Bool.and_eq_true, decide_eq_true_eq] at wf
    have : j ≠ k := by omega
    simp only [Memory.read, this, if_false]
    exact ih (j + 1) wf.2 (by omega)

theorem wfFrom_mono (m : Memory) (lo lo' : Nat) (le : lo' ≤ lo) (wf : m.wfFrom lo = true) : m.wfFrom lo' = true := by
  cases m with
  | nil => rfl
  | cons cell rest =>
    simp only [Memory.wfFrom, Bool.and_eq_true, decide_eq_true_eq] at wf ⊢
    exact ⟨⟨by omega, wf.1.2⟩, wf.2⟩

/-- A write is read back at its index. -/
theorem read_write_same (m : Memory) (lo k : Nat) (v : Byte) (wf : m.wfFrom lo = true) : (m.write k v).read k = v := by
  induction m generalizing lo with
  | nil => by_cases hv : v = Config.unlistedByte <;> simp [Memory.write, Memory.read, hv]
  | cons cell rest ih =>
    obtain ⟨j, w⟩ := cell
    have whole := wf
    simp only [Memory.wfFrom, Bool.and_eq_true, decide_eq_true_eq] at wf
    simp only [Memory.write]
    split
    · split
      · subst v
        exact read_below _ j k (by simp [Memory.wfFrom, wf]) (by assumption)
      · simp [Memory.read]
    · split
      · split
        · subst v
          exact read_below _ (j + 1) k wf.2 (by omega)
        · simp [Memory.read]
      · have : j ≠ k := fun eq => by simp_all
        simp only [Memory.read, this, if_false]
        exact ih (j + 1) wf.2

/-- A write leaves every other index alone. -/
theorem read_write_other (m : Memory) (k q : Nat) (v : Byte) (ne : q ≠ k) : (m.write k v).read q = m.read q := by
  induction m with
  | nil =>
    by_cases hv : v = Config.unlistedByte <;> simp [Memory.write, Memory.read, hv, Ne.symm ne]
  | cons cell rest ih =>
    obtain ⟨j, w⟩ := cell
    simp only [Memory.write]
    split
    · split
      · rfl
      · simp [Memory.read, Ne.symm ne]
    · split
      · have : j ≠ q := by omega
        split <;> simp [Memory.read, this, Ne.symm ne]
      · simp only [Memory.read, ih]

theorem wfFrom_write (m : Memory) (lo k : Nat) (v : Byte) (wf : m.wfFrom lo = true) (le : lo ≤ k) :
    (m.write k v).wfFrom lo = true := by
  induction m generalizing lo with
  | nil => by_cases hv : v = Config.unlistedByte <;> simp [Memory.write, Memory.wfFrom, hv, le]
  | cons cell rest ih =>
    obtain ⟨j, w⟩ := cell
    have whole := wf
    simp only [Memory.wfFrom, Bool.and_eq_true, decide_eq_true_eq] at wf
    simp only [Memory.write]
    split
    · split
      · exact whole
      · rename_i less _
        have next : k + 1 ≤ j := less
        simp_all [Memory.wfFrom]
    · split
      · split
        · exact wfFrom_mono rest (j + 1) lo (by omega) wf.2
        · simp_all [Memory.wfFrom]
      · simp only [Memory.wfFrom, Bool.and_eq_true, decide_eq_true_eq]
        exact ⟨wf.1, ih (j + 1) wf.2 (by omega)⟩

/-- Every write keeps the canonical form. -/
theorem wf_write (m : Memory) (k : Nat) (v : Byte) (wf : m.wf = true) : (m.write k v).wf = true :=
  wfFrom_write m 0 k v wf (Nat.zero_le k)

/-- A write inside the array's extent stays inside it. -/
theorem within_write (m : Memory) (k n : Nat) (v : Byte) (within : m.within n = true) (lt : k < n) :
    (m.write k v).within n = true := by
  induction m with
  | nil =>
    simp only [Memory.write]
    split
    · rfl
    · exact (within_cons k v [] n).mpr ⟨lt, rfl⟩
  | cons cell rest ih =>
    obtain ⟨j, w⟩ := cell
    rw [within_cons] at within
    simp only [Memory.write]
    repeat' split
    all_goals try simp only [within_cons]
    all_goals first
      | exact within
      | exact ⟨lt, within⟩
      | exact within.2
      | exact ⟨lt, within.2⟩
      | exact ⟨within.1, ih within.2⟩

theorem wf_overlay (m : Memory) (cells : List Host.Cell) (wf : m.wf = true) : (m.overlay cells).wf = true := by
  induction cells generalizing m with
  | nil => exact wf
  | cons cell rest ih => exact ih _ (wf_write m cell.1 cell.2 wf)

theorem within_overlay (m : Memory) (cells : List Host.Cell) (n : Nat) (within : m.within n = true)
    (inside : Memory.within cells n = true) : (m.overlay cells).within n = true := by
  induction cells generalizing m with
  | nil => exact within
  | cons cell rest ih =>
    have inside := (within_cons cell.1 cell.2 rest n).mp inside
    exact ih _ (within_write m cell.1 n cell.2 within inside.1) inside.2

theorem wfFrom_ofBytes (bytes : List Byte) (k : Nat) : (Memory.ofBytes k bytes).wfFrom k = true := by
  induction bytes generalizing k with
  | nil => rfl
  | cons v rest ih =>
    simp only [Memory.ofBytes]
    split
    · exact wfFrom_mono _ (k + 1) k (Nat.le_succ k) (ih (k + 1))
    · simp_all [Memory.wfFrom]

theorem within_ofBytes (bytes : List Byte) (k n : Nat) (fits : k + bytes.length ≤ n) :
    (Memory.ofBytes k bytes).within n = true := by
  induction bytes generalizing k with
  | nil => rfl
  | cons v rest ih =>
    simp only [List.length_cons] at fits
    have tail := ih (k + 1) (by omega)
    simp only [Memory.ofBytes]
    split
    · exact tail
    · exact (within_cons k v _ n).mpr ⟨by omega, tail⟩

/-- An array made of bytes reads them back. -/
theorem read_ofBytes (bytes : List Byte) (k i : Nat) (lt : i < bytes.length) :
    (Memory.ofBytes k bytes).read (k + i) = bytes[i] := by
  induction bytes generalizing k i with
  | nil => simp at lt
  | cons v rest ih =>
    cases i with
    | zero =>
      simp only [Memory.ofBytes]
      split
      · subst v
        exact read_below _ (k + 1) (k + 0) (wfFrom_ofBytes rest (k + 1)) (by omega)
      · simp [Memory.read]
    | succ i =>
      have tail := ih (k + 1) i (by simpa using lt)
      have reindex : k + (i + 1) = k + 1 + i := by omega
      simp only [Memory.ofBytes]
      split
      · simpa [reindex] using tail
      · have : k ≠ k + 1 + i := by omega
        simpa [Memory.read, reindex, this] using tail

theorem ofBytes_replicate_unlisted (n k : Nat) : Memory.ofBytes k (List.replicate n Config.unlistedByte) = [] := by
  induction n generalizing k with
  | zero => rfl
  | succ n ih => simp [List.replicate_succ, Memory.ofBytes, ih]

/-- Canonical arrays that read alike are equal lists. -/
theorem ext_of_wfFrom (m m' : Memory) (lo : Nat) (wf : m.wfFrom lo = true) (wf' : m'.wfFrom lo = true)
    (same : ∀ k, m.read k = m'.read k) : m = m' := by
  induction m generalizing m' lo with
  | nil =>
    cases m' with
    | nil => rfl
    | cons cell rest =>
      obtain ⟨j, v⟩ := cell
      simp only [Memory.wfFrom, Bool.and_eq_true, bne_iff_ne] at wf'
      exact absurd (by simpa [Memory.read] using (same j).symm) wf'.1.2
  | cons cell rest ih =>
    obtain ⟨j, v⟩ := cell
    have wfc := wf
    simp only [Memory.wfFrom, Bool.and_eq_true, decide_eq_true_eq, bne_iff_ne] at wf
    cases m' with
    | nil => exact absurd (by simpa [Memory.read] using same j) wf.1.2
    | cons cell' rest' =>
      obtain ⟨j', v'⟩ := cell'
      have wfc' := wf'
      simp only [Memory.wfFrom, Bool.and_eq_true, decide_eq_true_eq, bne_iff_ne] at wf'
      have sameIndex : j = j' := by
        rcases Nat.lt_trichotomy j j' with lt | eq | gt
        · have low := read_below ((j', v') :: rest') j' j (by simp_all [Memory.wfFrom]) lt
          have here := same j
          simp only [Memory.read, if_true] at here
          exact absurd (here.trans (by simpa [Memory.read] using low)) wf.1.2
        · exact eq
        · have low := read_below ((j, v) :: rest) j j' (by simp_all [Memory.wfFrom]) gt
          have here := same j'
          simp only [Memory.read, if_true] at here
          exact absurd (here.symm.trans (by simpa [Memory.read] using low)) wf'.1.2
      subst j'
      have sameByte : v = v' := by simpa [Memory.read] using same j
      subst v'
      congr 1
      refine ih rest' (j + 1) wf.2 wf'.2 fun k => ?_
      by_cases at_ : j = k
      · subst k
        rw [read_below rest (j + 1) j wf.2 (Nat.lt_succ_self j), read_below rest' (j + 1) j wf'.2 (Nat.lt_succ_self j)]
      · simpa [Memory.read, at_] using same k

end Sys2Proof.Machine.Memory
end

