-- ==== Sys2Proof/Laws/Words.lean ====
section
/-! SUPPORT. The halves of a word and the word of two halves (10_state.md R22), and the signed displacement (R8). -/

namespace Sys2Proof

@[simp] theorem hiByte_word16 (hi lo : Byte) : hiByte (word16 hi lo) = hi := by
  apply BitVec.eq_of_toNat_eq
  have h1 := hi.isLt; have h2 := lo.isLt
  simp only [hiByte, word16, BitVec.toNat_ofNat]
  omega

@[simp] theorem loByte_word16 (hi lo : Byte) : loByte (word16 hi lo) = lo := by
  apply BitVec.eq_of_toNat_eq
  have h1 := hi.isLt; have h2 := lo.isLt
  simp only [loByte, word16, BitVec.toNat_ofNat]
  omega

@[simp] theorem word16_hiByte_loByte (w : Word) : word16 (hiByte w) (loByte w) = w := by
  apply BitVec.eq_of_toNat_eq
  have h1 := w.isLt
  simp only [hiByte, loByte, word16, BitVec.toNat_ofNat]
  omega

theorem word16_toNat (hi lo : Byte) : (word16 hi lo).toNat = hi.toNat * 256 + lo.toNat := by
  have h1 := hi.isLt; have h2 := lo.isLt
  simp only [word16, BitVec.toNat_ofNat]
  omega

/-- The word of two halves is their concatenation (R8, `hi ## lo`). -/
theorem word16_eq_append (hi lo : Byte) : word16 hi lo = hi ++ lo := by
  apply BitVec.eq_of_toNat_eq
  rw [word16_toNat, BitVec.toNat_append, Nat.shiftLeft_eq, Nat.mul_comm _ (2 ^ 8),
    ← Nat.two_pow_add_eq_or_of_lt lo.isLt, Nat.mul_comm]

/-- Masking the low half of a word with 0xF0 (R25). -/
theorem word16_mask_low (hi lo : Byte) : word16 hi (lo &&& 0xF0) = word16 hi lo &&& 0xFFF0 := by
  have mask : (0xFFF0 : Word) = (0xFF : Byte) ++ (0xF0 : Byte) := rfl
  have all : hi &&& 0xFF = hi := BitVec.and_allOnes
  rw [word16_eq_append, word16_eq_append, mask, BitVec.and_append, all]

theorem word16_inj {hi lo hi' lo' : Byte} (eq : word16 hi lo = word16 hi' lo') : hi = hi' ∧ lo = lo' :=
  ⟨by simpa using congrArg hiByte eq, by simpa using congrArg loByte eq⟩

end Sys2Proof

namespace Sys2Proof.Machine

/-- `sext_16` is two's-complement sign extension (R8). -/
theorem sext16_eq_signExtend (b : Byte) : sext16 b = b.signExtend 16 := by
  revert b; decide

/-- Adding the sign-extended byte is adding its signed value, modulo 0x10000 (R8, R163, R231, R323). -/
theorem add_sext16 (w : Word) (e8 : Byte) : w + sext16 e8 = BitVec.ofInt 16 (w.toNat + e8.toInt) := by
  apply BitVec.eq_of_toInt_eq
  rw [sext16_eq_signExtend, BitVec.toInt_add, BitVec.toInt_signExtend, BitVec.toInt_ofInt, BitVec.toInt_eq_toNat_bmod w]
  have fits : e8.toInt.bmod 256 = e8.toInt := by rw [BitVec.toInt_eq_toNat_bmod]; simp
  simp [Int.add_bmod, fits]

theorem highPage_toNat (n : Byte) : (0xFF00 + zext16 n).toNat = 0xFF00 + n.toNat := by
  have := n.isLt
  have base : (0xFF00 : Word).toNat = 0xFF00 := rfl
  simp only [zext16, BitVec.toNat_add, BitVec.toNat_ofNat, base]
  omega

end Sys2Proof.Machine
end

