-- ==== Sys2Proof/Laws/Router.lean ====
section
/-! SUPPORT. The address-space router: what a read depends on, what a write changes and leaves (20_memory.md R60 to
R73), and that both keep the canonical form and the extents. -/

namespace Sys2Proof.Machine

/-! ### The rows of the routing table (R60), one at a time -/

theorem State.readByte_rom0 (s : State) (addr : Word) (h : addr.toNat ≤ 0x3FFF) :
    s.readByte addr = s.cart.read addr.toNat := by
  unfold State.readByte; dsimp only; rw [if_pos h]

theorem State.readByte_rom1 (s : State) (addr : Word) (lo : 0x4000 ≤ addr.toNat) (hi : addr.toNat ≤ 0x7FFF) :
    s.readByte addr = s.cart.read (s.romIndex addr.toNat) := by
  unfold State.readByte; dsimp only; rw [if_neg (by omega), if_pos hi]

theorem State.readByte_xram (s : State) (addr : Word) (lo : 0xA000 ≤ addr.toNat) (hi : addr.toNat ≤ 0xBFFF) :
    s.readByte addr = s.xram.read (s.ramIndex addr.toNat) := by
  unfold State.readByte; dsimp only; rw [if_neg (by omega), if_neg (by omega), if_pos ⟨lo, hi⟩]

theorem State.readByte_gm (s : State) (addr : Word) (lo : 0x8000 ≤ addr.toNat)
    (notX : ¬(0xA000 ≤ addr.toNat ∧ addr.toNat ≤ 0xBFFF)) : s.readByte addr = s.gm.read addr.toNat := by
  unfold State.readByte; dsimp only; rw [if_neg (by omega), if_neg (by omega), if_neg notX]

theorem State.writeByte_rom (s : State) (addr : Word) (v : Byte) (h : addr.toNat ≤ 0x7FFF) : s.writeByte addr v = s := by
  unfold State.writeByte; dsimp only; rw [if_pos h]

theorem State.writeByte_xram (s : State) (addr : Word) (v : Byte) (lo : 0xA000 ≤ addr.toNat) (hi : addr.toNat ≤ 0xBFFF) :
    s.writeByte addr v = { s with xram := s.xram.write (s.ramIndex addr.toNat) v } := by
  unfold State.writeByte; dsimp only; rw [if_neg (by omega), if_pos ⟨lo, hi⟩]

theorem State.writeByte_work (s : State) (addr : Word) (v : Byte) (lo : 0xC000 ≤ addr.toNat) (hi : addr.toNat ≤ 0xDFFF) :
    s.writeByte addr v = { s with gm := (s.gm.write addr.toNat v).write (addr.toNat + 0x2000) v } := by
  unfold State.writeByte; dsimp only; rw [if_neg (by omega), if_neg (by omega), if_pos ⟨lo, hi⟩]

theorem State.writeByte_echo (s : State) (addr : Word) (v : Byte) (lo : 0xE000 ≤ addr.toNat) (hi : addr.toNat ≤ 0xFDFF) :
    s.writeByte addr v = { s with gm := (s.gm.write addr.toNat v).write (addr.toNat - 0x2000) v } := by
  unfold State.writeByte; dsimp only; rw [if_neg (by omega), if_neg (by omega), if_neg (by omega), if_pos ⟨lo, hi⟩]

theorem State.writeByte_protected (s : State) (addr : Word) (v : Byte) (lo : 0xFEA0 ≤ addr.toNat)
    (hi : addr.toNat ≤ 0xFEFF) : s.writeByte addr v = s := by
  unfold State.writeByte; dsimp only
  rw [if_neg (by omega), if_neg (by omega), if_neg (by omega), if_neg (by omega), if_pos ⟨lo, hi⟩]

theorem State.writeByte_plain (s : State) (addr : Word) (v : Byte)
    (h : (0x8000 ≤ addr.toNat ∧ addr.toNat ≤ 0x9FFF) ∨ (0xFE00 ≤ addr.toNat ∧ addr.toNat ≤ 0xFE9F) ∨
      0xFF00 ≤ addr.toNat) : s.writeByte addr v = { s with gm := s.gm.write addr.toNat v } := by
  unfold State.writeByte; dsimp only
  rw [if_neg (by omega), if_neg (by omega), if_neg (by omega), if_neg (by omega), if_neg (by omega)]

/-- The six rows of the write side of R60 cover every address. -/
theorem writeRegions (addr : Word) :
    addr.toNat ≤ 0x7FFF ∨ (0xA000 ≤ addr.toNat ∧ addr.toNat ≤ 0xBFFF) ∨ (0xC000 ≤ addr.toNat ∧ addr.toNat ≤ 0xDFFF) ∨
    (0xE000 ≤ addr.toNat ∧ addr.toNat ≤ 0xFDFF) ∨ (0xFEA0 ≤ addr.toNat ∧ addr.toNat ≤ 0xFEFF) ∨
    ((0x8000 ≤ addr.toNat ∧ addr.toNat ≤ 0x9FFF) ∨ (0xFE00 ≤ addr.toNat ∧ addr.toNat ≤ 0xFE9F) ∨
      0xFF00 ≤ addr.toNat) := by omega

/-- The three arrays a read can reach (R68). -/
theorem readRegions (addr : Word) :
    addr.toNat ≤ 0x3FFF ∨ (0x4000 ≤ addr.toNat ∧ addr.toNat ≤ 0x7FFF) ∨ (0xA000 ≤ addr.toNat ∧ addr.toNat ≤ 0xBFFF) ∨
    (0x8000 ≤ addr.toNat ∧ ¬(0xA000 ≤ addr.toNat ∧ addr.toNat ≤ 0xBFFF)) := by omega

/-- A read depends only on the arrays and the bank registers (R68). -/
theorem State.readByte_congr (s t : State) (addr : Word) (cart : t.cart = s.cart) (xram : t.xram = s.xram)
    (gm : t.gm = s.gm) (romb : t.romb = s.romb) (ramb : t.ramb = s.ramb) : t.readByte addr = s.readByte addr := by
  unfold State.readByte State.romIndex State.ramIndex
  rw [cart, xram, gm, romb, ramb]

/-- A register write does not change what memory reads as. -/
@[simp] theorem State.readByte_setReg8 (s : State) (r : Reg8) (v : Byte) (addr : Word) :
    (s.setReg8 r v).readByte addr = s.readByte addr := by apply State.readByte_congr <;> simp
@[simp] theorem State.readByte_setHL (s : State) (v addr : Word) : (s.setHL v).readByte addr = s.readByte addr := rfl
@[simp] theorem State.readByte_setReg16 (s : State) (p : Reg16) (v addr : Word) :
    (s.setReg16 p v).readByte addr = s.readByte addr := by apply State.readByte_congr <;> simp
@[simp] theorem State.readByte_setStk (s : State) (p : RegStk) (v addr : Word) :
    (s.setStk p v).readByte addr = s.readByte addr := by apply State.readByte_congr <;> simp
@[simp] theorem State.readByte_flags (s : State) (z n h c : Option Bool) (addr : Word) :
    (s.flags z n h c).readByte addr = s.readByte addr := rfl
@[simp] theorem State.readByte_dropTop (s : State) (addr : Word) : s.dropTop.readByte addr = s.readByte addr := rfl
@[simp] theorem State.readByte_ptrAfter (s : State) (m : MemPtr) (addr : Word) :
    (s.ptrAfter m).readByte addr = s.readByte addr := by cases m <;> rfl

/-- The arrays in canonical form. -/
def State.memWf (s : State) : Prop := s.cart.wf = true ∧ s.xram.wf = true ∧ s.gm.wf = true

/-- An address one of whose listed targets it is not, by numbers. -/
theorem not_mem_writeTargets (addr q : Word) (out : q ∉ writeTargets addr) :
    addr.toNat ≤ 0x7FFF ∨ (0xFEA0 ≤ addr.toNat ∧ addr.toNat ≤ 0xFEFF) ∨
    (q.toNat ≠ addr.toNat ∧
      (0xC000 ≤ addr.toNat → addr.toNat ≤ 0xDFFF → q.toNat ≠ addr.toNat + 0x2000) ∧
      (0xE000 ≤ addr.toNat → addr.toNat ≤ 0xFDFF → q.toNat ≠ addr.toNat - 0x2000)) := by
  have neNat : ∀ w : Word, q ≠ w → q.toNat ≠ w.toNat := fun w ne eq => ne (BitVec.eq_of_toNat_eq eq)
  have k : (0x2000 : Word).toNat = 0x2000 := rfl
  have up : (addr + 0x2000).toNat = (addr.toNat + 0x2000) % 65536 := by rw [BitVec.toNat_add, k]
  have down : (addr - 0x2000).toNat = (addr.toNat + 0xE000) % 65536 := by rw [BitVec.toNat_sub, k]; omega
  unfold writeTargets at out
  dsimp only at out
  split at out
  · exact .inl (by assumption)
  split at out
  · exact .inr (.inr ⟨neNat _ (by simpa using out), by omega, by omega⟩)
  split at out
  · simp only [List.mem_cons, List.not_mem_nil, or_false, not_or] at out
    have := neNat _ out.2
    exact .inr (.inr ⟨neNat _ out.1, by omega, by omega⟩)
  split at out
  · simp only [List.mem_cons, List.not_mem_nil, or_false, not_or] at out
    have := neNat _ out.2
    exact .inr (.inr ⟨neNat _ out.1, by omega, by omega⟩)
  split at out
  · exact .inr (.inl (by assumption))
  · exact .inr (.inr ⟨neNat _ (by simpa using out), by omega, by omega⟩)

/-- Writing GM at other indexes does not change what `q` reads. -/
theorem State.readByte_gm_write (s : State) (q : Word) (m : Memory) (same : m.read q.toNat = s.gm.read q.toNat) :
    ({ s with gm := m } : State).readByte q = s.readByte q := by
  rcases readRegions q with r | ⟨r, r'⟩ | ⟨r, r'⟩ | ⟨r, r'⟩
  · rw [State.readByte_rom0 _ _ r, State.readByte_rom0 _ _ r]
  · rw [State.readByte_rom1 _ _ r r', State.readByte_rom1 _ _ r r']; rfl
  · rw [State.readByte_xram _ _ r r', State.readByte_xram _ _ r r']; rfl
  · rw [State.readByte_gm _ _ r r', State.readByte_gm _ _ r r']; exact same

/-- A write leaves every address but its targets as it was (R69, R70). -/
theorem State.readByte_writeByte_other (s : State) (addr q : Word) (v : Byte) (out : q ∉ writeTargets addr) :
    (s.writeByte addr v).readByte q = s.readByte q := by
  rcases not_mem_writeTargets addr q out with h | ⟨h, h'⟩ | ⟨ne, up, down⟩
  · rw [State.writeByte_rom _ _ _ h]
  · rw [State.writeByte_protected _ _ _ h h']
  rcases writeRegions addr with h | ⟨h, h'⟩ | ⟨h, h'⟩ | ⟨h, h'⟩ | ⟨h, h'⟩ | h
  · rw [State.writeByte_rom _ _ _ h]
  · rw [State.writeByte_xram _ _ _ h h']
    rcases readRegions q with r | ⟨r, r'⟩ | ⟨r, r'⟩ | ⟨r, r'⟩
    · rw [State.readByte_rom0 _ _ r, State.readByte_rom0 _ _ r]
    · rw [State.readByte_rom1 _ _ r r', State.readByte_rom1 _ _ r r']; rfl
    · rw [State.readByte_xram _ _ r r', State.readByte_xram _ _ r r']
      have ne' : s.ramIndex q.toNat ≠ s.ramIndex addr.toNat := by unfold State.ramIndex; omega
      exact Memory.read_write_other _ _ _ _ ne'
    · rw [State.readByte_gm _ _ r r', State.readByte_gm _ _ r r']
  · rw [State.writeByte_work _ _ _ h h']
    exact State.readByte_gm_write s q _
      ((Memory.read_write_other _ _ _ _ (up h h')).trans (Memory.read_write_other _ _ _ _ ne))
  · rw [State.writeByte_echo _ _ _ h h']
    exact State.readByte_gm_write s q _
      ((Memory.read_write_other _ _ _ _ (down h h')).trans (Memory.read_write_other _ _ _ _ ne))
  · rw [State.writeByte_protected _ _ _ h h']
  · rw [State.writeByte_plain _ _ _ h]
    exact State.readByte_gm_write s q _ (Memory.read_write_other _ _ _ _ ne)

/-- A write to a cell that is not read-only is read back there (R63 to R67). -/
theorem State.readByte_writeByte_same (s : State) (addr : Word) (v : Byte) (wf : s.memWf)
    (ram : 0x8000 ≤ addr.toNat) (writable : ¬(0xFEA0 ≤ addr.toNat ∧ addr.toNat ≤ 0xFEFF)) :
    (s.writeByte addr v).readByte addr = v := by
  obtain ⟨-, wfx, wfg⟩ := wf
  rcases writeRegions addr with h | ⟨h, h'⟩ | ⟨h, h'⟩ | ⟨h, h'⟩ | ⟨h, h'⟩ | h
  · omega
  · rw [State.writeByte_xram _ _ _ h h', State.readByte_xram _ _ h h']
    exact Memory.read_write_same _ 0 _ _ wfx
  · rw [State.writeByte_work _ _ _ h h', State.readByte_gm _ _ ram (by omega)]
    exact (Memory.read_write_other _ _ _ _ (by omega)).trans (Memory.read_write_same _ 0 _ _ wfg)
  · rw [State.writeByte_echo _ _ _ h h', State.readByte_gm _ _ ram (by omega)]
    exact (Memory.read_write_other _ _ _ _ (by omega)).trans (Memory.read_write_same _ 0 _ _ wfg)
  · exact absurd ⟨h, h'⟩ writable
  · rw [State.writeByte_plain _ _ _ h, State.readByte_gm _ _ ram (by omega)]
    exact Memory.read_write_same _ 0 _ _ wfg

/-- A write keeps the canonical form of the arrays. -/
theorem State.memWf_writeByte (s : State) (addr : Word) (v : Byte) (wf : s.memWf) : (s.writeByte addr v).memWf := by
  obtain ⟨wfc, wfx, wfg⟩ := wf
  rcases writeRegions addr with h | ⟨h, h'⟩ | ⟨h, h'⟩ | ⟨h, h'⟩ | ⟨h, h'⟩ | h
  · rw [State.writeByte_rom _ _ _ h]; exact ⟨wfc, wfx, wfg⟩
  · rw [State.writeByte_xram _ _ _ h h']; exact ⟨wfc, Memory.wf_write _ _ _ wfx, wfg⟩
  · rw [State.writeByte_work _ _ _ h h']; exact ⟨wfc, wfx, Memory.wf_write _ _ _ (Memory.wf_write _ _ _ wfg)⟩
  · rw [State.writeByte_echo _ _ _ h h']; exact ⟨wfc, wfx, Memory.wf_write _ _ _ (Memory.wf_write _ _ _ wfg)⟩
  · rw [State.writeByte_protected _ _ _ h h']; exact ⟨wfc, wfx, wfg⟩
  · rw [State.writeByte_plain _ _ _ h]; exact ⟨wfc, wfx, Memory.wf_write _ _ _ wfg⟩

/-- A write keeps XRAM inside its extent while RAMB is a bank (R64: "the index is always inside XRAM"). -/
theorem State.xramWithin_writeByte (s : State) (addr : Word) (v : Byte) (bank : s.ramb < s.ramBanks)
    (within : s.xram.within (s.ramBanks * Config.ramBankSize) = true) :
    (s.writeByte addr v).xram.within (s.ramBanks * Config.ramBankSize) = true := by
  rcases writeRegions addr with h | ⟨h, h'⟩ | ⟨h, h'⟩ | ⟨h, h'⟩ | ⟨h, h'⟩ | h
  · rw [State.writeByte_rom _ _ _ h]; exact within
  · rw [State.writeByte_xram _ _ _ h h']
    refine Memory.within_write _ _ _ _ within ?_
    have room := Nat.mul_le_mul_right 0x2000 (Nat.succ_le_of_lt bank)
    unfold State.ramIndex
    have size : Config.ramBankSize = 0x2000 := rfl
    rw [size]
    omega
  · rw [State.writeByte_work _ _ _ h h']; exact within
  · rw [State.writeByte_echo _ _ _ h h']; exact within
  · rw [State.writeByte_protected _ _ _ h h']; exact within
  · rw [State.writeByte_plain _ _ _ h]; exact within

/-- A write keeps GM inside its extent (R36). -/
theorem State.gmWithin_writeByte (s : State) (addr : Word) (v : Byte)
    (within : s.gm.within Config.addressSpaceSize = true) :
    (s.writeByte addr v).gm.within Config.addressSpaceSize = true := by
  have here : addr.toNat < Config.addressSpaceSize := addr.isLt
  have size : Config.addressSpaceSize = 65536 := rfl
  rcases writeRegions addr with h | ⟨h, h'⟩ | ⟨h, h'⟩ | ⟨h, h'⟩ | ⟨h, h'⟩ | h
  · rw [State.writeByte_rom _ _ _ h]; exact within
  · rw [State.writeByte_xram _ _ _ h h']; exact within
  · rw [State.writeByte_work _ _ _ h h']
    exact Memory.within_write _ _ _ _ (Memory.within_write _ _ _ _ within here) (by omega)
  · rw [State.writeByte_echo _ _ _ h h']
    exact Memory.within_write _ _ _ _ (Memory.within_write _ _ _ _ within here) (by omega)
  · rw [State.writeByte_protected _ _ _ h h']; exact within
  · rw [State.writeByte_plain _ _ _ h]; exact Memory.within_write _ _ _ _ within here

/-- What `push16` leaves of every address that neither of its two byte writes targets (R353). -/
theorem State.readByte_push16_other (s : State) (w q : Word) (hi : q ∉ writeTargets (s.sp - 1))
    (lo : q ∉ writeTargets (s.sp - 2)) : (s.push16 w).readByte q = s.readByte q := by
  have inner := State.readByte_writeByte_other s (s.sp - 1) q (hiByte w) hi
  have outer := State.readByte_writeByte_other (s.writeByte (s.sp - 1) (hiByte w)) (s.sp - 2) q (loByte w) lo
  exact outer.trans inner

end Sys2Proof.Machine
end

