-- ==== Sys2Proof/Laws/Exec.lean ====
section
/-! SUPPORT. `exec` by forms: every arm is the shared operation of its instruction's form, so that a fact about all
instructions is a case split over forms, not over the 512 rows; and what a step can answer. -/

namespace Sys2Proof.Machine

/-- The shared operation of each form. -/
def execForm (g : Form) (s : State) : Result :=
  match g with
  | .nop => noOperation s
  | .halt => haltEngine s
  | .di => writeIME false s
  | .ei => writeIME true s
  | .scf => setCarry s
  | .ccf => complementCarry s
  | .cpl => complementA s
  | .daa => decimalAdjust s
  | .rlca => rotateA .rlc s
  | .rrca => rotateA .rrc s
  | .rla => rotateA .rl s
  | .rra => rotateA .rr s
  | .stop pad => stopForm pad s
  | .ldRR dst src => loadRegReg dst src s
  | .ldRN dst n => loadRegImm dst n s
  | .ldRM dst => loadRegMem dst s
  | .ldMR src => storeMemReg src s
  | .ldMN n => storeMemImm n s
  | .ldAFrom m => loadAPtr m s
  | .ldATo m => storeAPtr m s
  | .ldhTo a8 => storeAHigh a8 s
  | .ldhFrom a8 => loadAHigh a8 s
  | .ldCTo => storeAHighC s
  | .ldCFrom => loadAHighC s
  | .ldAbsTo a16 => storeAAbs a16 s
  | .ldAbsFrom a16 => loadAAbs a16 s
  | .ldPair p d16 => loadPairImm p d16 s
  | .ldAbsSP a16 => storeSPAbs a16 s
  | .ldSPHL => loadSPHL s
  | .ldHLSP e8 => loadHLSPOffset e8 s
  | .alu o x => alu o x s
  | .addHL p => addHLPair p s
  | .addSP e8 => addSPOffset e8 s
  | .incPair p => incPair p s
  | .decPair p => decPair p s
  | .inc8 x => incLoc x s
  | .dec8 x => decLoc x s
  | .rot o x => rotate o x s
  | .bit b x => testBit b x s
  | .set b x => setBit b x s
  | .res b x => resetBit b x s
  | .jp a16 => jumpAbs a16 s
  | .jpCc cc a16 => jumpAbsIf cc a16 s
  | .jpHL => jumpHL s
  | .jr e8 => jumpRel e8 s
  | .jrCc cc e8 => jumpRelIf cc e8 s
  | .call a16 => callAbs a16 s
  | .callCc cc a16 => callAbsIf cc a16 s
  | .ret => returnSub s
  | .retCc cc => returnIf cc s
  | .reti => returnEnable s
  | .rst y => restart y s
  | .push p => pushPair p s
  | .pop p => popPair p s
  | .illegal op => undefinedOpcode op s
  | .prefixCB => extendedPrefix s

/-- Every arm of `exec` is the operation of its instruction's form. -/
theorem exec_eq_form (i : Instr) (s : State) : exec i s = execForm i.form s := by cases i <;> rfl

/-- The prefix row runs the extended instruction its next byte selects by fields (R117, R371). -/
theorem extendedPrefix_eq (s : State) : extendedPrefix s = execForm (extForm (s.readByte (s.pc + 1))) s := by
  unfold extendedPrefix extForm
  dsimp only
  split
  · rfl
  split
  · rfl
  split <;> rfl

/-- `exec` by the form that runs: the instruction's own, and for the prefix row the extended instruction's. -/
theorem exec_eq_runForm (i : Instr) (s : State) : exec i s = execForm (runForm i s) s := by
  rw [exec_eq_form]
  unfold runForm
  cases i.form <;> first | rfl | exact extendedPrefix_eq s

/-- The form that runs is never the prefix's (R371). -/
theorem runForm_ne_prefix (i : Instr) (s : State) : runForm i s ≠ .prefixCB := by
  have ext : ∀ op2 : Byte, extForm op2 ≠ .prefixCB := by
    intro op2
    unfold extForm
    repeat' split
    all_goals exact Form.noConfusion
  unfold runForm
  cases i.form
  case prefixCB => exact ext _
  all_goals exact Form.noConfusion

/-- Everything that executing a form can answer: a next state, or the Unimplemented signal of a hole (R370) or of STOP
with a wrong pad byte (R363). -/
theorem execForm_ends (g : Form) (s : State) :
    (∃ t, execForm g s = .next t) ∨
    (∃ op, g = .illegal op ∧ execForm g s = .fault (.unimplemented op s.pc)) ∨
    (∃ pad, g = .stop pad ∧ pad ≠ 0x00 ∧ execForm g s = .fault (.unimplemented 0x10 s.pc)) := by
  cases g
  case illegal op => exact .inr (.inl ⟨op, rfl, rfl⟩)
  case stop pad =>
    by_cases zero : pad = 0x00
    · exact .inl ⟨{ s with pc := s.pcNext 2 }, if_pos zero⟩
    · exact .inr (.inr ⟨pad, rfl, zero, if_neg zero⟩)
  case prefixCB =>
    refine .inl ?_
    show ∃ t, extendedPrefix s = .next t
    rw [extendedPrefix_eq]
    unfold extForm
    split
    · exact ⟨_, rfl⟩
    split
    · exact ⟨_, rfl⟩
    split <;> exact ⟨_, rfl⟩
  case jpCc cc a16 => refine .inl ?_; simp only [execForm, jumpAbsIf]; split <;> exact ⟨_, rfl⟩
  case jrCc cc e8 => refine .inl ?_; simp only [execForm, jumpRelIf]; split <;> exact ⟨_, rfl⟩
  case callCc cc a16 => refine .inl ?_; simp only [execForm, callAbsIf]; split <;> exact ⟨_, rfl⟩
  case retCc cc => refine .inl ?_; simp only [execForm, returnIf]; split <;> exact ⟨_, rfl⟩
  all_goals exact .inl ⟨_, rfl⟩

/-- What a step can do (R362, R110): idle, or run the instruction it fetches. -/
theorem step_cases (s : State) : (s.halted = true ∧ step s = .next s) ∨ (s.halted = false ∧ step s = exec s.fetch s) := by
  unfold step
  cases s.halted <;> simp

end Sys2Proof.Machine
end

