-- ==== Sys2Proof/Laws/HostOps.lean ====
section
/-! SUPPORT. What RESET does in one place (70_reset_and_hazards.md R440, R441): when it succeeds and with which state,
when it is refused, and what a table of cells leaves in an array. -/

namespace Sys2Proof.Machine

open Sys2Proof.Claims

/-- Storing a table in order leaves the table's byte where it has one, and the array's elsewhere. -/
theorem Memory.read_overlay (m : Memory) (cells : List Host.Cell) (k : Nat) (wf : m.wf = true) :
    (m.overlay cells).read k = (tableByte cells k).getD (m.read k) := by
  induction cells generalizing m with
  | nil => rfl
  | cons cell rest ih =>
    obtain ⟨j, v⟩ := cell
    have tail := ih (m.write j v) (Memory.wf_write m j v wf)
    simp only [Memory.overlay, List.foldl_cons] at tail ⊢
    rw [tail, tableByte]
    by_cases eq : j = k
    · subst eq
      cases tableByte rest j <;> simp [Memory.read_write_same m 0 j v wf]
    · cases tableByte rest k <;> simp [eq, Memory.read_write_other m j k v (Ne.symm eq)]

/-- R441 in the spec's own terms. -/
theorem ResetParams.imageValid_iff (p : ResetParams) :
    p.imageValid = true ↔ 2 ≤ p.romBanks ∧ p.image.length = p.romBanks * 0x4000 := by
  simp [ResetParams.imageValid, Config.romBankSize]

/-- The three ways RESET can end. -/
theorem hostReset_cases (p : ResetParams) :
    (p.imageValid = false ∧ hostReset p = .error .malformedImage) ∨
    (p.imageValid = true ∧ p.inDomain = false ∧ hostReset p = .error .badParameter) ∨
    (p.imageValid = true ∧ p.inDomain = true ∧ hostReset p = .ok p.start) := by
  unfold hostReset
  cases p.imageValid <;> cases p.inDomain <;> simp

/-- XRAM after RESET is XRAM_INIT (R440 step 3). -/
theorem ResetParams.start_xram (p : ResetParams) (k : Nat) :
    p.start.xram.read k = (tableByte p.xramInit k).getD Config.unlistedByte :=
  Memory.read_overlay [] p.xramInit k rfl

/-- GM after RESET is GM_INIT overlaid by IO_DEFAULTS (R440 steps 2 and 4). -/
theorem ResetParams.start_gm (p : ResetParams) (k : Nat) :
    p.start.gm.read k = ((tableByte p.ioDefaults k).or (tableByte p.gmInit k)).getD Config.unlistedByte := by
  show ((Memory.overlay [] p.gmInit).overlay p.ioDefaults).read k = _
  rw [Memory.read_overlay _ _ _ (Memory.wf_overlay [] p.gmInit rfl), Memory.read_overlay [] p.gmInit k rfl,
    Memory.read_nil]
  cases tableByte p.ioDefaults k <;> rfl

end Sys2Proof.Machine
end

