-- ==== Sys2Proof/Laws/Invariant.lean ====
section
/-! SUPPORT. What keeps `State.Inv`: updates that touch neither the arrays nor the banks, a write put through the
router, and the shared operations made of them. -/

namespace Sys2Proof.Machine

/-- The invariants are about F, the bank registers and counts, and the arrays only. -/
theorem State.Inv.congr {s : State} (inv : s.Inv) (t : State) (low : t.f &&& 0x0F = 0) (romb : t.romb = s.romb)
    (ramb : t.ramb = s.ramb) (romBanks : t.romBanks = s.romBanks) (ramBanks : t.ramBanks = s.ramBanks)
    (cart : t.cart = s.cart) (xram : t.xram = s.xram) (gm : t.gm = s.gm) : t.Inv where
  flagsLow := low
  rombBound := by rw [romb, romBanks]; exact inv.rombBound
  rambBound := by rw [ramb, ramBanks]; exact inv.rambBound
  romBanksMin := by rw [romBanks]; exact inv.romBanksMin
  cartWf := by rw [cart]; exact inv.cartWf
  cartWithin := by rw [cart, romBanks]; exact inv.cartWithin
  xramWf := by rw [xram]; exact inv.xramWf
  xramWithin := by rw [xram, ramBanks]; exact inv.xramWithin
  gmWf := by rw [gm]; exact inv.gmWf
  gmWithin := by rw [gm]; exact inv.gmWithin

theorem State.Inv.memWf {s : State} (inv : s.Inv) : s.memWf := ⟨inv.cartWf, inv.xramWf, inv.gmWf⟩

/-- A write put through the router keeps the invariants (R64, R69). -/
theorem State.Inv.writeByte {s : State} (inv : s.Inv) (addr : Word) (v : Byte) : (s.writeByte addr v).Inv := by
  have wf := State.memWf_writeByte s addr v inv.memWf
  constructor
  · rw [State.writeByte_f]; exact inv.flagsLow
  · rw [State.writeByte_romb, State.writeByte_romBanks]; exact inv.rombBound
  · rw [State.writeByte_ramb, State.writeByte_ramBanks]; exact inv.rambBound
  · rw [State.writeByte_romBanks]; exact inv.romBanksMin
  · exact wf.1
  · rw [State.writeByte_cart, State.writeByte_romBanks]; exact inv.cartWithin
  · exact wf.2.1
  · rw [State.writeByte_ramBanks]; exact State.xramWithin_writeByte s addr v inv.rambBound inv.xramWithin
  · exact wf.2.2
  · exact State.gmWithin_writeByte s addr v inv.gmWithin

theorem State.Inv.setPC {s : State} (inv : s.Inv) (target : Word) : ({ s with pc := target } : State).Inv :=
  inv.congr _ inv.flagsLow rfl rfl rfl rfl rfl rfl rfl

theorem State.Inv.setReg8 {s : State} (inv : s.Inv) (r : Reg8) (v : Byte) : (s.setReg8 r v).Inv := by
  cases r <;> exact inv.congr _ inv.flagsLow rfl rfl rfl rfl rfl rfl rfl

theorem State.Inv.setReg16 {s : State} (inv : s.Inv) (p : Reg16) (v : Word) : (s.setReg16 p v).Inv := by
  cases p <;> exact inv.congr _ inv.flagsLow rfl rfl rfl rfl rfl rfl rfl

/-- Writing AF masks bits 3..0 (R25, R352), so no popped byte breaks the invariant. -/
theorem State.Inv.setStk {s : State} (inv : s.Inv) (p : RegStk) (v : Word) : (s.setStk p v).Inv := by
  cases p
  case af => exact inv.congr _ (mask_low _) rfl rfl rfl rfl rfl rfl rfl
  all_goals exact inv.congr _ inv.flagsLow rfl rfl rfl rfl rfl rfl rfl

theorem State.Inv.setLoc {s : State} (inv : s.Inv) (x : Loc8) (v : Byte) : (s.setLoc x v).Inv := by
  cases x
  case reg r => exact inv.setReg8 r v
  case mHL => exact inv.writeByte _ v

theorem State.Inv.flags {s : State} (inv : s.Inv) (z n h c : Option Bool) : (s.flags z n h c).Inv :=
  inv.congr _ (flagByte_low _ _ _ _) rfl rfl rfl rfl rfl rfl rfl

theorem State.Inv.push16 {s : State} (inv : s.Inv) (w : Word) : (s.push16 w).Inv :=
  let both := (inv.writeByte (s.sp - 1) (hiByte w)).writeByte (s.sp - 2) (loByte w)
  both.congr _ both.flagsLow rfl rfl rfl rfl rfl rfl rfl

theorem State.Inv.dropTop {s : State} (inv : s.Inv) : s.dropTop.Inv :=
  inv.congr _ inv.flagsLow rfl rfl rfl rfl rfl rfl rfl

theorem State.Inv.ptrAfter {s : State} (inv : s.Inv) (m : MemPtr) : (s.ptrAfter m).Inv := by
  cases m <;> exact inv.congr _ inv.flagsLow rfl rfl rfl rfl rfl rfl rfl

end Sys2Proof.Machine
end

