-- ==== Sys2Proof/Laws/PerInstr.lean ====
section
/-! SUPPORT. Facts about every instruction as syntax, one lemma for each constructor: the family EncodedLength says
that the encoder writes as many bytes as R101 gives the opcode (the prefix row, which is no instruction by itself,
writes its byte 0 alone). -/

namespace Sys2Proof.Laws.EncodedLength

/-- The number of bytes encoded is the length R101 gives byte 0, or 1 for the prefix row. -/
def Statement (i : Instr) : Prop :=
  i.encode.length = match i.form with
    | .prefixCB => 1
    | _ => opLength (i.encode.headD 0)

theorem nop : Statement .nop := rfl
theorem ldBC_d16 (d16 : Word) : Statement (.ldBC_d16 d16) := rfl
theorem ldMBC_A : Statement .ldMBC_A := rfl
theorem incBC : Statement .incBC := rfl
theorem incB : Statement .incB := rfl
theorem decB : Statement .decB := rfl
theorem ldB_d8 (d8 : Byte) : Statement (.ldB_d8 d8) := rfl
theorem rlca : Statement .rlca := rfl
theorem ldMa16_SP (a16 : Word) : Statement (.ldMa16_SP a16) := rfl
theorem addHL_BC : Statement .addHL_BC := rfl
theorem ldA_MBC : Statement .ldA_MBC := rfl
theorem decBC : Statement .decBC := rfl
theorem incC : Statement .incC := rfl
theorem decC : Statement .decC := rfl
theorem ldC_d8 (d8 : Byte) : Statement (.ldC_d8 d8) := rfl
theorem rrca : Statement .rrca := rfl
theorem stop (pad : Byte) : Statement (.stop pad) := rfl
theorem ldDE_d16 (d16 : Word) : Statement (.ldDE_d16 d16) := rfl
theorem ldMDE_A : Statement .ldMDE_A := rfl
theorem incDE : Statement .incDE := rfl
theorem incD : Statement .incD := rfl
theorem decD : Statement .decD := rfl
theorem ldD_d8 (d8 : Byte) : Statement (.ldD_d8 d8) := rfl
theorem rla : Statement .rla := rfl
theorem jr_e8 (e8 : Byte) : Statement (.jr_e8 e8) := rfl
theorem addHL_DE : Statement .addHL_DE := rfl
theorem ldA_MDE : Statement .ldA_MDE := rfl
theorem decDE : Statement .decDE := rfl
theorem incE : Statement .incE := rfl
theorem decE : Statement .decE := rfl
theorem ldE_d8 (d8 : Byte) : Statement (.ldE_d8 d8) := rfl
theorem rra : Statement .rra := rfl
theorem jrNZ_e8 (e8 : Byte) : Statement (.jrNZ_e8 e8) := rfl
theorem ldHL_d16 (d16 : Word) : Statement (.ldHL_d16 d16) := rfl
theorem ldMHLinc_A : Statement .ldMHLinc_A := rfl
theorem incHL : Statement .incHL := rfl
theorem incH : Statement .incH := rfl
theorem decH : Statement .decH := rfl
theorem ldH_d8 (d8 : Byte) : Statement (.ldH_d8 d8) := rfl
theorem daa : Statement .daa := rfl
theorem jrZ_e8 (e8 : Byte) : Statement (.jrZ_e8 e8) := rfl
theorem addHL_HL : Statement .addHL_HL := rfl
theorem ldA_MHLinc : Statement .ldA_MHLinc := rfl
theorem decHL : Statement .decHL := rfl
theorem incL : Statement .incL := rfl
theorem decL : Statement .decL := rfl
theorem ldL_d8 (d8 : Byte) : Statement (.ldL_d8 d8) := rfl
theorem cpl : Statement .cpl := rfl
theorem jrNC_e8 (e8 : Byte) : Statement (.jrNC_e8 e8) := rfl
theorem ldSP_d16 (d16 : Word) : Statement (.ldSP_d16 d16) := rfl
theorem ldMHLdec_A : Statement .ldMHLdec_A := rfl
theorem incSP : Statement .incSP := rfl
theorem incMHL : Statement .incMHL := rfl
theorem decMHL : Statement .decMHL := rfl
theorem ldMHL_d8 (d8 : Byte) : Statement (.ldMHL_d8 d8) := rfl
theorem scf : Statement .scf := rfl
theorem jrC_e8 (e8 : Byte) : Statement (.jrC_e8 e8) := rfl
theorem addHL_SP : Statement .addHL_SP := rfl
theorem ldA_MHLdec : Statement .ldA_MHLdec := rfl
theorem decSP : Statement .decSP := rfl
theorem incA : Statement .incA := rfl
theorem decA : Statement .decA := rfl
theorem ldA_d8 (d8 : Byte) : Statement (.ldA_d8 d8) := rfl
theorem ccf : Statement .ccf := rfl
theorem ldB_B : Statement .ldB_B := rfl
theorem ldB_C : Statement .ldB_C := rfl
theorem ldB_D : Statement .ldB_D := rfl
theorem ldB_E : Statement .ldB_E := rfl
theorem ldB_H : Statement .ldB_H := rfl
theorem ldB_L : Statement .ldB_L := rfl
theorem ldB_MHL : Statement .ldB_MHL := rfl
theorem ldB_A : Statement .ldB_A := rfl
theorem ldC_B : Statement .ldC_B := rfl
theorem ldC_C : Statement .ldC_C := rfl
theorem ldC_D : Statement .ldC_D := rfl
theorem ldC_E : Statement .ldC_E := rfl
theorem ldC_H : Statement .ldC_H := rfl
theorem ldC_L : Statement .ldC_L := rfl
theorem ldC_MHL : Statement .ldC_MHL := rfl
theorem ldC_A : Statement .ldC_A := rfl
theorem ldD_B : Statement .ldD_B := rfl
theorem ldD_C : Statement .ldD_C := rfl
theorem ldD_D : Statement .ldD_D := rfl
theorem ldD_E : Statement .ldD_E := rfl
theorem ldD_H : Statement .ldD_H := rfl
theorem ldD_L : Statement .ldD_L := rfl
theorem ldD_MHL : Statement .ldD_MHL := rfl
theorem ldD_A : Statement .ldD_A := rfl
theorem ldE_B : Statement .ldE_B := rfl
theorem ldE_C : Statement .ldE_C := rfl
theorem ldE_D : Statement .ldE_D := rfl
theorem ldE_E : Statement .ldE_E := rfl
theorem ldE_H : Statement .ldE_H := rfl
theorem ldE_L : Statement .ldE_L := rfl
theorem ldE_MHL : Statement .ldE_MHL := rfl
theorem ldE_A : Statement .ldE_A := rfl
theorem ldH_B : Statement .ldH_B := rfl
theorem ldH_C : Statement .ldH_C := rfl
theorem ldH_D : Statement .ldH_D := rfl
theorem ldH_E : Statement .ldH_E := rfl
theorem ldH_H : Statement .ldH_H := rfl
theorem ldH_L : Statement .ldH_L := rfl
theorem ldH_MHL : Statement .ldH_MHL := rfl
theorem ldH_A : Statement .ldH_A := rfl
theorem ldL_B : Statement .ldL_B := rfl
theorem ldL_C : Statement .ldL_C := rfl
theorem ldL_D : Statement .ldL_D := rfl
theorem ldL_E : Statement .ldL_E := rfl
theorem ldL_H : Statement .ldL_H := rfl
theorem ldL_L : Statement .ldL_L := rfl
theorem ldL_MHL : Statement .ldL_MHL := rfl
theorem ldL_A : Statement .ldL_A := rfl
theorem ldMHL_B : Statement .ldMHL_B := rfl
theorem ldMHL_C : Statement .ldMHL_C := rfl
theorem ldMHL_D : Statement .ldMHL_D := rfl
theorem ldMHL_E : Statement .ldMHL_E := rfl
theorem ldMHL_H : Statement .ldMHL_H := rfl
theorem ldMHL_L : Statement .ldMHL_L := rfl
theorem halt : Statement .halt := rfl
theorem ldMHL_A : Statement .ldMHL_A := rfl
theorem ldA_B : Statement .ldA_B := rfl
theorem ldA_C : Statement .ldA_C := rfl
theorem ldA_D : Statement .ldA_D := rfl
theorem ldA_E : Statement .ldA_E := rfl
theorem ldA_H : Statement .ldA_H := rfl
theorem ldA_L : Statement .ldA_L := rfl
theorem ldA_MHL : Statement .ldA_MHL := rfl
theorem ldA_A : Statement .ldA_A := rfl
theorem addA_B : Statement .addA_B := rfl
theorem addA_C : Statement .addA_C := rfl
theorem addA_D : Statement .addA_D := rfl
theorem addA_E : Statement .addA_E := rfl
theorem addA_H : Statement .addA_H := rfl
theorem addA_L : Statement .addA_L := rfl
theorem addA_MHL : Statement .addA_MHL := rfl
theorem addA_A : Statement .addA_A := rfl
theorem adcA_B : Statement .adcA_B := rfl
theorem adcA_C : Statement .adcA_C := rfl
theorem adcA_D : Statement .adcA_D := rfl
theorem adcA_E : Statement .adcA_E := rfl
theorem adcA_H : Statement .adcA_H := rfl
theorem adcA_L : Statement .adcA_L := rfl
theorem adcA_MHL : Statement .adcA_MHL := rfl
theorem adcA_A : Statement .adcA_A := rfl
theorem subB : Statement .subB := rfl
theorem subC : Statement .subC := rfl
theorem subD : Statement .subD := rfl
theorem subE : Statement .subE := rfl
theorem subH : Statement .subH := rfl
theorem subL : Statement .subL := rfl
theorem subMHL : Statement .subMHL := rfl
theorem subA : Statement .subA := rfl
theorem sbcA_B : Statement .sbcA_B := rfl
theorem sbcA_C : Statement .sbcA_C := rfl
theorem sbcA_D : Statement .sbcA_D := rfl
theorem sbcA_E : Statement .sbcA_E := rfl
theorem sbcA_H : Statement .sbcA_H := rfl
theorem sbcA_L : Statement .sbcA_L := rfl
theorem sbcA_MHL : Statement .sbcA_MHL := rfl
theorem sbcA_A : Statement .sbcA_A := rfl
theorem andB : Statement .andB := rfl
theorem andC : Statement .andC := rfl
theorem andD : Statement .andD := rfl
theorem andE : Statement .andE := rfl
theorem andH : Statement .andH := rfl
theorem andL : Statement .andL := rfl
theorem andMHL : Statement .andMHL := rfl
theorem andA : Statement .andA := rfl
theorem xorB : Statement .xorB := rfl
theorem xorC : Statement .xorC := rfl
theorem xorD : Statement .xorD := rfl
theorem xorE : Statement .xorE := rfl
theorem xorH : Statement .xorH := rfl
theorem xorL : Statement .xorL := rfl
theorem xorMHL : Statement .xorMHL := rfl
theorem xorA : Statement .xorA := rfl
theorem orB : Statement .orB := rfl
theorem orC : Statement .orC := rfl
theorem orD : Statement .orD := rfl
theorem orE : Statement .orE := rfl
theorem orH : Statement .orH := rfl
theorem orL : Statement .orL := rfl
theorem orMHL : Statement .orMHL := rfl
theorem orA : Statement .orA := rfl
theorem cpB : Statement .cpB := rfl
theorem cpC : Statement .cpC := rfl
theorem cpD : Statement .cpD := rfl
theorem cpE : Statement .cpE := rfl
theorem cpH : Statement .cpH := rfl
theorem cpL : Statement .cpL := rfl
theorem cpMHL : Statement .cpMHL := rfl
theorem cpA : Statement .cpA := rfl
theorem retNZ : Statement .retNZ := rfl
theorem popBC : Statement .popBC := rfl
theorem jpNZ_a16 (a16 : Word) : Statement (.jpNZ_a16 a16) := rfl
theorem jp_a16 (a16 : Word) : Statement (.jp_a16 a16) := rfl
theorem callNZ_a16 (a16 : Word) : Statement (.callNZ_a16 a16) := rfl
theorem pushBC : Statement .pushBC := rfl
theorem addA_d8 (d8 : Byte) : Statement (.addA_d8 d8) := rfl
theorem rst00 : Statement .rst00 := rfl
theorem retZ : Statement .retZ := rfl
theorem ret : Statement .ret := rfl
theorem jpZ_a16 (a16 : Word) : Statement (.jpZ_a16 a16) := rfl
theorem prefixCB : Statement .prefixCB := rfl
theorem callZ_a16 (a16 : Word) : Statement (.callZ_a16 a16) := rfl
theorem call_a16 (a16 : Word) : Statement (.call_a16 a16) := rfl
theorem adcA_d8 (d8 : Byte) : Statement (.adcA_d8 d8) := rfl
theorem rst08 : Statement .rst08 := rfl
theorem retNC : Statement .retNC := rfl
theorem popDE : Statement .popDE := rfl
theorem jpNC_a16 (a16 : Word) : Statement (.jpNC_a16 a16) := rfl
theorem illegalD3 : Statement .illegalD3 := rfl
theorem callNC_a16 (a16 : Word) : Statement (.callNC_a16 a16) := rfl
theorem pushDE : Statement .pushDE := rfl
theorem sub_d8 (d8 : Byte) : Statement (.sub_d8 d8) := rfl
theorem rst10 : Statement .rst10 := rfl
theorem retC : Statement .retC := rfl
theorem reti : Statement .reti := rfl
theorem jpC_a16 (a16 : Word) : Statement (.jpC_a16 a16) := rfl
theorem illegalDB : Statement .illegalDB := rfl
theorem callC_a16 (a16 : Word) : Statement (.callC_a16 a16) := rfl
theorem illegalDD : Statement .illegalDD := rfl
theorem sbcA_d8 (d8 : Byte) : Statement (.sbcA_d8 d8) := rfl
theorem rst18 : Statement .rst18 := rfl
theorem ldhMa8_A (a8 : Byte) : Statement (.ldhMa8_A a8) := rfl
theorem popHL : Statement .popHL := rfl
theorem ldMC_A : Statement .ldMC_A := rfl
theorem illegalE3 : Statement .illegalE3 := rfl
theorem illegalE4 : Statement .illegalE4 := rfl
theorem pushHL : Statement .pushHL := rfl
theorem and_d8 (d8 : Byte) : Statement (.and_d8 d8) := rfl
theorem rst20 : Statement .rst20 := rfl
theorem addSP_e8 (e8 : Byte) : Statement (.addSP_e8 e8) := rfl
theorem jpHL : Statement .jpHL := rfl
theorem ldMa16_A (a16 : Word) : Statement (.ldMa16_A a16) := rfl
theorem illegalEB : Statement .illegalEB := rfl
theorem illegalEC : Statement .illegalEC := rfl
theorem illegalED : Statement .illegalED := rfl
theorem xor_d8 (d8 : Byte) : Statement (.xor_d8 d8) := rfl
theorem rst28 : Statement .rst28 := rfl
theorem ldhA_Ma8 (a8 : Byte) : Statement (.ldhA_Ma8 a8) := rfl
theorem popAF : Statement .popAF := rfl
theorem ldA_MC : Statement .ldA_MC := rfl
theorem di : Statement .di := rfl
theorem illegalF4 : Statement .illegalF4 := rfl
theorem pushAF : Statement .pushAF := rfl
theorem or_d8 (d8 : Byte) : Statement (.or_d8 d8) := rfl
theorem rst30 : Statement .rst30 := rfl
theorem ldHL_SPe8 (e8 : Byte) : Statement (.ldHL_SPe8 e8) := rfl
theorem ldSP_HL : Statement .ldSP_HL := rfl
theorem ldA_Ma16 (a16 : Word) : Statement (.ldA_Ma16 a16) := rfl
theorem ei : Statement .ei := rfl
theorem illegalFC : Statement .illegalFC := rfl
theorem illegalFD : Statement .illegalFD := rfl
theorem cp_d8 (d8 : Byte) : Statement (.cp_d8 d8) := rfl
theorem rst38 : Statement .rst38 := rfl
theorem rlc_B : Statement .rlc_B := rfl
theorem rlc_C : Statement .rlc_C := rfl
theorem rlc_D : Statement .rlc_D := rfl
theorem rlc_E : Statement .rlc_E := rfl
theorem rlc_H : Statement .rlc_H := rfl
theorem rlc_L : Statement .rlc_L := rfl
theorem rlc_MHL : Statement .rlc_MHL := rfl
theorem rlc_A : Statement .rlc_A := rfl
theorem rrc_B : Statement .rrc_B := rfl
theorem rrc_C : Statement .rrc_C := rfl
theorem rrc_D : Statement .rrc_D := rfl
theorem rrc_E : Statement .rrc_E := rfl
theorem rrc_H : Statement .rrc_H := rfl
theorem rrc_L : Statement .rrc_L := rfl
theorem rrc_MHL : Statement .rrc_MHL := rfl
theorem rrc_A : Statement .rrc_A := rfl
theorem rl_B : Statement .rl_B := rfl
theorem rl_C : Statement .rl_C := rfl
theorem rl_D : Statement .rl_D := rfl
theorem rl_E : Statement .rl_E := rfl
theorem rl_H : Statement .rl_H := rfl
theorem rl_L : Statement .rl_L := rfl
theorem rl_MHL : Statement .rl_MHL := rfl
theorem rl_A : Statement .rl_A := rfl
theorem rr_B : Statement .rr_B := rfl
theorem rr_C : Statement .rr_C := rfl
theorem rr_D : Statement .rr_D := rfl
theorem rr_E : Statement .rr_E := rfl
theorem rr_H : Statement .rr_H := rfl
theorem rr_L : Statement .rr_L := rfl
theorem rr_MHL : Statement .rr_MHL := rfl
theorem rr_A : Statement .rr_A := rfl
theorem slaB : Statement .slaB := rfl
theorem slaC : Statement .slaC := rfl
theorem slaD : Statement .slaD := rfl
theorem slaE : Statement .slaE := rfl
theorem slaH : Statement .slaH := rfl
theorem slaL : Statement .slaL := rfl
theorem slaMHL : Statement .slaMHL := rfl
theorem slaA : Statement .slaA := rfl
theorem sraB : Statement .sraB := rfl
theorem sraC : Statement .sraC := rfl
theorem sraD : Statement .sraD := rfl
theorem sraE : Statement .sraE := rfl
theorem sraH : Statement .sraH := rfl
theorem sraL : Statement .sraL := rfl
theorem sraMHL : Statement .sraMHL := rfl
theorem sraA : Statement .sraA := rfl
theorem swapB : Statement .swapB := rfl
theorem swapC : Statement .swapC := rfl
theorem swapD : Statement .swapD := rfl
theorem swapE : Statement .swapE := rfl
theorem swapH : Statement .swapH := rfl
theorem swapL : Statement .swapL := rfl
theorem swapMHL : Statement .swapMHL := rfl
theorem swapA : Statement .swapA := rfl
theorem srlB : Statement .srlB := rfl
theorem srlC : Statement .srlC := rfl
theorem srlD : Statement .srlD := rfl
theorem srlE : Statement .srlE := rfl
theorem srlH : Statement .srlH := rfl
theorem srlL : Statement .srlL := rfl
theorem srlMHL : Statement .srlMHL := rfl
theorem srlA : Statement .srlA := rfl
theorem bit0_B : Statement .bit0_B := rfl
theorem bit0_C : Statement .bit0_C := rfl
theorem bit0_D : Statement .bit0_D := rfl
theorem bit0_E : Statement .bit0_E := rfl
theorem bit0_H : Statement .bit0_H := rfl
theorem bit0_L : Statement .bit0_L := rfl
theorem bit0_MHL : Statement .bit0_MHL := rfl
theorem bit0_A : Statement .bit0_A := rfl
theorem bit1_B : Statement .bit1_B := rfl
theorem bit1_C : Statement .bit1_C := rfl
theorem bit1_D : Statement .bit1_D := rfl
theorem bit1_E : Statement .bit1_E := rfl
theorem bit1_H : Statement .bit1_H := rfl
theorem bit1_L : Statement .bit1_L := rfl
theorem bit1_MHL : Statement .bit1_MHL := rfl
theorem bit1_A : Statement .bit1_A := rfl
theorem bit2_B : Statement .bit2_B := rfl
theorem bit2_C : Statement .bit2_C := rfl
theorem bit2_D : Statement .bit2_D := rfl
theorem bit2_E : Statement .bit2_E := rfl
theorem bit2_H : Statement .bit2_H := rfl
theorem bit2_L : Statement .bit2_L := rfl
theorem bit2_MHL : Statement .bit2_MHL := rfl
theorem bit2_A : Statement .bit2_A := rfl
theorem bit3_B : Statement .bit3_B := rfl
theorem bit3_C : Statement .bit3_C := rfl
theorem bit3_D : Statement .bit3_D := rfl
theorem bit3_E : Statement .bit3_E := rfl
theorem bit3_H : Statement .bit3_H := rfl
theorem bit3_L : Statement .bit3_L := rfl
theorem bit3_MHL : Statement .bit3_MHL := rfl
theorem bit3_A : Statement .bit3_A := rfl
theorem bit4_B : Statement .bit4_B := rfl
theorem bit4_C : Statement .bit4_C := rfl
theorem bit4_D : Statement .bit4_D := rfl
theorem bit4_E : Statement .bit4_E := rfl
theorem bit4_H : Statement .bit4_H := rfl
theorem bit4_L : Statement .bit4_L := rfl
theorem bit4_MHL : Statement .bit4_MHL := rfl
theorem bit4_A : Statement .bit4_A := rfl
theorem bit5_B : Statement .bit5_B := rfl
theorem bit5_C : Statement .bit5_C := rfl
theorem bit5_D : Statement .bit5_D := rfl
theorem bit5_E : Statement .bit5_E := rfl
theorem bit5_H : Statement .bit5_H := rfl
theorem bit5_L : Statement .bit5_L := rfl
theorem bit5_MHL : Statement .bit5_MHL := rfl
theorem bit5_A : Statement .bit5_A := rfl
theorem bit6_B : Statement .bit6_B := rfl
theorem bit6_C : Statement .bit6_C := rfl
theorem bit6_D : Statement .bit6_D := rfl
theorem bit6_E : Statement .bit6_E := rfl
theorem bit6_H : Statement .bit6_H := rfl
theorem bit6_L : Statement .bit6_L := rfl
theorem bit6_MHL : Statement .bit6_MHL := rfl
theorem bit6_A : Statement .bit6_A := rfl
theorem bit7_B : Statement .bit7_B := rfl
theorem bit7_C : Statement .bit7_C := rfl
theorem bit7_D : Statement .bit7_D := rfl
theorem bit7_E : Statement .bit7_E := rfl
theorem bit7_H : Statement .bit7_H := rfl
theorem bit7_L : Statement .bit7_L := rfl
theorem bit7_MHL : Statement .bit7_MHL := rfl
theorem bit7_A : Statement .bit7_A := rfl
theorem res0_B : Statement .res0_B := rfl
theorem res0_C : Statement .res0_C := rfl
theorem res0_D : Statement .res0_D := rfl
theorem res0_E : Statement .res0_E := rfl
theorem res0_H : Statement .res0_H := rfl
theorem res0_L : Statement .res0_L := rfl
theorem res0_MHL : Statement .res0_MHL := rfl
theorem res0_A : Statement .res0_A := rfl
theorem res1_B : Statement .res1_B := rfl
theorem res1_C : Statement .res1_C := rfl
theorem res1_D : Statement .res1_D := rfl
theorem res1_E : Statement .res1_E := rfl
theorem res1_H : Statement .res1_H := rfl
theorem res1_L : Statement .res1_L := rfl
theorem res1_MHL : Statement .res1_MHL := rfl
theorem res1_A : Statement .res1_A := rfl
theorem res2_B : Statement .res2_B := rfl
theorem res2_C : Statement .res2_C := rfl
theorem res2_D : Statement .res2_D := rfl
theorem res2_E : Statement .res2_E := rfl
theorem res2_H : Statement .res2_H := rfl
theorem res2_L : Statement .res2_L := rfl
theorem res2_MHL : Statement .res2_MHL := rfl
theorem res2_A : Statement .res2_A := rfl
theorem res3_B : Statement .res3_B := rfl
theorem res3_C : Statement .res3_C := rfl
theorem res3_D : Statement .res3_D := rfl
theorem res3_E : Statement .res3_E := rfl
theorem res3_H : Statement .res3_H := rfl
theorem res3_L : Statement .res3_L := rfl
theorem res3_MHL : Statement .res3_MHL := rfl
theorem res3_A : Statement .res3_A := rfl
theorem res4_B : Statement .res4_B := rfl
theorem res4_C : Statement .res4_C := rfl
theorem res4_D : Statement .res4_D := rfl
theorem res4_E : Statement .res4_E := rfl
theorem res4_H : Statement .res4_H := rfl
theorem res4_L : Statement .res4_L := rfl
theorem res4_MHL : Statement .res4_MHL := rfl
theorem res4_A : Statement .res4_A := rfl
theorem res5_B : Statement .res5_B := rfl
theorem res5_C : Statement .res5_C := rfl
theorem res5_D : Statement .res5_D := rfl
theorem res5_E : Statement .res5_E := rfl
theorem res5_H : Statement .res5_H := rfl
theorem res5_L : Statement .res5_L := rfl
theorem res5_MHL : Statement .res5_MHL := rfl
theorem res5_A : Statement .res5_A := rfl
theorem res6_B : Statement .res6_B := rfl
theorem res6_C : Statement .res6_C := rfl
theorem res6_D : Statement .res6_D := rfl
theorem res6_E : Statement .res6_E := rfl
theorem res6_H : Statement .res6_H := rfl
theorem res6_L : Statement .res6_L := rfl
theorem res6_MHL : Statement .res6_MHL := rfl
theorem res6_A : Statement .res6_A := rfl
theorem res7_B : Statement .res7_B := rfl
theorem res7_C : Statement .res7_C := rfl
theorem res7_D : Statement .res7_D := rfl
theorem res7_E : Statement .res7_E := rfl
theorem res7_H : Statement .res7_H := rfl
theorem res7_L : Statement .res7_L := rfl
theorem res7_MHL : Statement .res7_MHL := rfl
theorem res7_A : Statement .res7_A := rfl
theorem set0_B : Statement .set0_B := rfl
theorem set0_C : Statement .set0_C := rfl
theorem set0_D : Statement .set0_D := rfl
theorem set0_E : Statement .set0_E := rfl
theorem set0_H : Statement .set0_H := rfl
theorem set0_L : Statement .set0_L := rfl
theorem set0_MHL : Statement .set0_MHL := rfl
theorem set0_A : Statement .set0_A := rfl
theorem set1_B : Statement .set1_B := rfl
theorem set1_C : Statement .set1_C := rfl
theorem set1_D : Statement .set1_D := rfl
theorem set1_E : Statement .set1_E := rfl
theorem set1_H : Statement .set1_H := rfl
theorem set1_L : Statement .set1_L := rfl
theorem set1_MHL : Statement .set1_MHL := rfl
theorem set1_A : Statement .set1_A := rfl
theorem set2_B : Statement .set2_B := rfl
theorem set2_C : Statement .set2_C := rfl
theorem set2_D : Statement .set2_D := rfl
theorem set2_E : Statement .set2_E := rfl
theorem set2_H : Statement .set2_H := rfl
theorem set2_L : Statement .set2_L := rfl
theorem set2_MHL : Statement .set2_MHL := rfl
theorem set2_A : Statement .set2_A := rfl
theorem set3_B : Statement .set3_B := rfl
theorem set3_C : Statement .set3_C := rfl
theorem set3_D : Statement .set3_D := rfl
theorem set3_E : Statement .set3_E := rfl
theorem set3_H : Statement .set3_H := rfl
theorem set3_L : Statement .set3_L := rfl
theorem set3_MHL : Statement .set3_MHL := rfl
theorem set3_A : Statement .set3_A := rfl
theorem set4_B : Statement .set4_B := rfl
theorem set4_C : Statement .set4_C := rfl
theorem set4_D : Statement .set4_D := rfl
theorem set4_E : Statement .set4_E := rfl
theorem set4_H : Statement .set4_H := rfl
theorem set4_L : Statement .set4_L := rfl
theorem set4_MHL : Statement .set4_MHL := rfl
theorem set4_A : Statement .set4_A := rfl
theorem set5_B : Statement .set5_B := rfl
theorem set5_C : Statement .set5_C := rfl
theorem set5_D : Statement .set5_D := rfl
theorem set5_E : Statement .set5_E := rfl
theorem set5_H : Statement .set5_H := rfl
theorem set5_L : Statement .set5_L := rfl
theorem set5_MHL : Statement .set5_MHL := rfl
theorem set5_A : Statement .set5_A := rfl
theorem set6_B : Statement .set6_B := rfl
theorem set6_C : Statement .set6_C := rfl
theorem set6_D : Statement .set6_D := rfl
theorem set6_E : Statement .set6_E := rfl
theorem set6_H : Statement .set6_H := rfl
theorem set6_L : Statement .set6_L := rfl
theorem set6_MHL : Statement .set6_MHL := rfl
theorem set6_A : Statement .set6_A := rfl
theorem set7_B : Statement .set7_B := rfl
theorem set7_C : Statement .set7_C := rfl
theorem set7_D : Statement .set7_D := rfl
theorem set7_E : Statement .set7_E := rfl
theorem set7_H : Statement .set7_H := rfl
theorem set7_L : Statement .set7_L := rfl
theorem set7_MHL : Statement .set7_MHL := rfl
theorem set7_A : Statement .set7_A := rfl

end Sys2Proof.Laws.EncodedLength
end

