-- ==== Sys2Proof/Laws/Rules.lean ====
section
/-! SUPPORT. The bytes and the cycle counts of an instruction by its form, so that a statement about a form needs no case
split over rows. -/

namespace Sys2Proof.Machine

open Sys2Proof.Claims

/-- The encoding lines of the rules, by form (R113 to R117). -/
def formBytes : Form → List Byte
  | .nop => [0x00]
  | .halt => [0x76]
  | .di => [0xF3]
  | .ei => [0xFB]
  | .scf => [0x37]
  | .ccf => [0x3F]
  | .cpl => [0x2F]
  | .daa => [0x27]
  | .rlca => [0x07]
  | .rrca => [0x0F]
  | .rla => [0x17]
  | .rra => [0x1F]
  | .stop pad => [0x10, pad]
  | .ldRR dst src => [opByte (0x40 + 8 * regIndex dst + regIndex src)]
  | .ldRN dst n => [opByte (0x06 + 8 * regIndex dst), n]
  | .ldRM dst => [opByte (0x46 + 8 * regIndex dst)]
  | .ldMR src => [opByte (0x70 + regIndex src)]
  | .ldMN n => [0x36, n]
  | .ldAFrom m => [match m with | .bc => 0x0A | .de => 0x1A | .hlInc => 0x2A | .hlDec => 0x3A]
  | .ldATo m => [match m with | .bc => 0x02 | .de => 0x12 | .hlInc => 0x22 | .hlDec => 0x32]
  | .ldhTo a8 => [0xE0, a8]
  | .ldhFrom a8 => [0xF0, a8]
  | .ldCTo => [0xE2]
  | .ldCFrom => [0xF2]
  | .ldAbsTo a16 => [0xEA, loByte a16, hiByte a16]
  | .ldAbsFrom a16 => [0xFA, loByte a16, hiByte a16]
  | .ldPair p d16 => [opByte (0x01 + 16 * pairIndex p), loByte d16, hiByte d16]
  | .ldAbsSP a16 => [0x08, loByte a16, hiByte a16]
  | .ldSPHL => [0xF9]
  | .ldHLSP e8 => [0xF8, e8]
  | .alu .add x => aluBytes 0 x
  | .alu .adc x => aluBytes 1 x
  | .alu .sub x => aluBytes 2 x
  | .alu .sbc x => aluBytes 3 x
  | .alu .and x => aluBytes 4 x
  | .alu .xor x => aluBytes 5 x
  | .alu .or x => aluBytes 6 x
  | .alu .cp x => aluBytes 7 x
  | .addHL p => [opByte (0x09 + 16 * pairIndex p)]
  | .addSP e8 => [0xE8, e8]
  | .incPair p => [opByte (0x03 + 16 * pairIndex p)]
  | .decPair p => [opByte (0x0B + 16 * pairIndex p)]
  | .inc8 x => [opByte (0x04 + 8 * locIndex x)]
  | .dec8 x => [opByte (0x05 + 8 * locIndex x)]
  | .rot .rlc x => [0xCB, opByte (0x00 + locIndex x)]
  | .rot .rrc x => [0xCB, opByte (0x08 + locIndex x)]
  | .rot .rl x => [0xCB, opByte (0x10 + locIndex x)]
  | .rot .rr x => [0xCB, opByte (0x18 + locIndex x)]
  | .rot .sla x => [0xCB, opByte (0x20 + locIndex x)]
  | .rot .sra x => [0xCB, opByte (0x28 + locIndex x)]
  | .rot .swap x => [0xCB, opByte (0x30 + locIndex x)]
  | .rot .srl x => [0xCB, opByte (0x38 + locIndex x)]
  | .bit b x => [0xCB, opByte (0x40 + 8 * b.val + locIndex x)]
  | .res b x => [0xCB, opByte (0x80 + 8 * b.val + locIndex x)]
  | .set b x => [0xCB, opByte (0xC0 + 8 * b.val + locIndex x)]
  | .jp a16 => [0xC3, loByte a16, hiByte a16]
  | .jpCc cc a16 => [opByte (0xC2 + 8 * condIndex cc), loByte a16, hiByte a16]
  | .jpHL => [0xE9]
  | .jr e8 => [0x18, e8]
  | .jrCc cc e8 => [opByte (0x20 + 8 * condIndex cc), e8]
  | .call a16 => [0xCD, loByte a16, hiByte a16]
  | .callCc cc a16 => [opByte (0xC4 + 8 * condIndex cc), loByte a16, hiByte a16]
  | .ret => [0xC9]
  | .retCc cc => [opByte (0xC0 + 8 * condIndex cc)]
  | .reti => [0xD9]
  | .rst y => [opByte (0xC7 + 8 * y.val)]
  | .push p => [opByte (0xC5 + 16 * stkIndex p)]
  | .pop p => [opByte (0xC1 + 16 * stkIndex p)]
  | .illegal op => [op]
  | .prefixCB => [0xCB]

/-- The encoder, row by row, is the encoding line of the row's form. -/
theorem encode_eq_form (i : Instr) : i.encode = formBytes i.form := by cases i <;> rfl

/-- The class table of R460, by form: (taken, not taken). -/
def formCycles : Form → Option (Nat × Nat)
  | .ldRR _ _ | .alu _ (.loc (.reg _)) | .inc8 (.reg _) | .dec8 (.reg _) => some (4, 4)
  | .rlca | .rrca | .rla | .rra | .daa | .cpl | .scf | .ccf | .nop | .halt | .stop _ | .di | .ei | .jpHL => some (4, 4)
  | .alu _ (.loc .mHL) | .alu _ (.imm _) | .ldRN _ _ | .ldRM _ | .ldMR _ | .ldAFrom _ | .ldATo _ => some (8, 8)
  | .ldCTo | .ldCFrom | .ldSPHL | .addHL _ | .incPair _ | .decPair _ => some (8, 8)
  | .rot _ (.reg _) | .bit _ (.reg _) | .set _ (.reg _) | .res _ (.reg _) => some (8, 8)
  | .ldPair _ _ | .ldMN _ | .ldhTo _ | .ldhFrom _ | .inc8 .mHL | .dec8 .mHL | .ldHLSP _ | .pop _ | .jr _ => some (12, 12)
  | .bit _ .mHL => some (12, 12)
  | .ldAbsTo _ | .ldAbsFrom _ | .addSP _ | .push _ | .jp _ | .ret | .reti | .rst _ => some (16, 16)
  | .rot _ .mHL | .set _ .mHL | .res _ .mHL => some (16, 16)
  | .ldAbsSP _ => some (20, 20)
  | .call _ => some (24, 24)
  | .jrCc _ _ => some (12, 8)
  | .jpCc _ _ => some (16, 12)
  | .callCc _ _ => some (24, 12)
  | .retCc _ => some (20, 8)
  | .illegal _ | .prefixCB => none

/-- CYC, row by row, is the class of the row's form (R460). -/
theorem cyclePair_eq_form (i : Instr) : cyclePair i = formCycles i.form := by
  cases i <;> rfl

/-- The cycles a step reports, by form (R110, R460). -/
theorem cyclesOf_eq_form (i : Instr) (s : State) (row : i ≠ .prefixCB) :
    cyclesOf i s = match formCycles i.form with
      | some (t, n) => if formTaken i.form s then t else n
      | none => 0 := by
  unfold cyclesOf
  simp only [if_neg row, cyclePair_eq_form i]
  rfl

/-- The cycles of a form at a state: the taken or the not-taken count of its class. -/
def formCount (g : Form) (s : State) : Nat :=
  match formCycles g with
  | some (t, n) => if formTaken g s then t else n
  | none => 0

/-- A rule about a form holds of every instruction of that form once it holds of the form. -/
theorem retires_of_form {i : Instr} {g : Form} {s t : State} {bytes : List Byte} {cycles : Nat} (form : i.form = g)
    (row : g ≠ .prefixCB) (next : execForm g s = .next t) (encoding : formBytes g = bytes)
    (count : formCount g s = cycles) : Retires i s t bytes cycles := by
  subst form
  refine ⟨(exec_eq_form i s).trans next, (encode_eq_form i).trans encoding, ?_⟩
  rw [cyclesOf_eq_form i s (fun eq => row (by rw [eq]; rfl))]
  exact count

end Sys2Proof.Machine
end

