-- ==== Sys2Proof/Tests/Slice0.lean ====
section
/-! SUPPORT. Tests of single steps and of decoding, with expected results taken from the spec, and for each obligation
with hypotheses a concrete witness that meets them. V and M numbers are those of 95_test_vectors.md. -/

namespace Sys2Proof.Tests

open Sys2Proof Sys2Proof.Machine Sys2Proof.Claims

/-- The start state of the vectors (95_test_vectors.md section 1) with the instruction's bytes at PC. -/
def placed (s : State) : List Byte → State
  | [] => s
  | [b0] => s.poke s.pc b0
  | [b0, b1] => (s.poke s.pc b0).poke (s.pc + 1) b1
  | b0 :: b1 :: b2 :: _ => ((s.poke s.pc b0).poke (s.pc + 1) b1).poke (s.pc + 2) b2

/-- A projection of the state after one step on the placed bytes. -/
def ran {X : Type} (s : State) (bytes : List Byte) (see : State → X) : Option X :=
  match step (placed s bytes) with
  | .next t => some (see t)
  | _ => none

/-- The signal of one step on the placed bytes. -/
def signal (s : State) (bytes : List Byte) : Option Fault :=
  match step (placed s bytes) with
  | .fault f => some f
  | _ => none

/-- What the decoder reads at the head of the bytes. -/
def reads (bytes : List Byte) : Option Instr :=
  match decode bytes with
  | .ok (i, _) => some i
  | .error _ => none

/-! ### WellFormed: an ill-formed term for each check -/

theorem test_stop_with_wrong_pad_is_ill_formed : Instr.wellFormed (.stop 0x01) = false := by decide
theorem test_stop_with_zero_pad_is_well_formed : Instr.wellFormed (.stop 0x00) = true := by decide
theorem test_prefix_row_is_ill_formed : Instr.wellFormed .prefixCB = false := by decide
theorem test_illegal_rows_are_ill_formed :
    [Instr.illegalD3, .illegalDB, .illegalDD, .illegalE3, .illegalE4, .illegalEB, .illegalEC, .illegalED, .illegalF4,
      .illegalFC, .illegalFD].all (fun i => !i.wellFormed) = true := by decide
theorem test_ordinary_rows_are_well_formed :
    [Instr.nop, .ldA_d8 0xFF, .jp_a16 0xFFFF, .bit7_MHL, .halt, .popAF].all Instr.wellFormed = true := by decide

/-! ### Decoding: the printed maps of 30_encoding.md sections 6.1 and 6.2, sixteen opcodes a theorem, byte 1 = 0x34 and
byte 2 = 0x12 -/

theorem test_base_row_0 :
    [0x00, 0x01, 0x02, 0x03, 0x04, 0x05, 0x06, 0x07, 0x08, 0x09, 0x0A, 0x0B, 0x0C, 0x0D, 0x0E, 0x0F].map (fun b => reads [b, 0x34, 0x12]) = [
      .nop, .ldBC_d16 0x1234, .ldMBC_A, .incBC, .incB, .decB, .ldB_d8 0x34, .rlca, .ldMa16_SP 0x1234,
      .addHL_BC, .ldA_MBC, .decBC, .incC, .decC, .ldC_d8 0x34, .rrca].map some := by rfl
theorem test_base_row_1 :
    [0x10, 0x11, 0x12, 0x13, 0x14, 0x15, 0x16, 0x17, 0x18, 0x19, 0x1A, 0x1B, 0x1C, 0x1D, 0x1E, 0x1F].map (fun b => reads [b, 0x34, 0x12]) = [
      .stop 0x34, .ldDE_d16 0x1234, .ldMDE_A, .incDE, .incD, .decD, .ldD_d8 0x34, .rla, .jr_e8 0x34, .addHL_DE,
      .ldA_MDE, .decDE, .incE, .decE, .ldE_d8 0x34, .rra].map some := by rfl
theorem test_base_row_2 :
    [0x20, 0x21, 0x22, 0x23, 0x24, 0x25, 0x26, 0x27, 0x28, 0x29, 0x2A, 0x2B, 0x2C, 0x2D, 0x2E, 0x2F].map (fun b => reads [b, 0x34, 0x12]) = [
      .jrNZ_e8 0x34, .ldHL_d16 0x1234, .ldMHLinc_A, .incHL, .incH, .decH, .ldH_d8 0x34, .daa, .jrZ_e8 0x34,
      .addHL_HL, .ldA_MHLinc, .decHL, .incL, .decL, .ldL_d8 0x34, .cpl].map some := by rfl
theorem test_base_row_3 :
    [0x30, 0x31, 0x32, 0x33, 0x34, 0x35, 0x36, 0x37, 0x38, 0x39, 0x3A, 0x3B, 0x3C, 0x3D, 0x3E, 0x3F].map (fun b => reads [b, 0x34, 0x12]) = [
      .jrNC_e8 0x34, .ldSP_d16 0x1234, .ldMHLdec_A, .incSP, .incMHL, .decMHL, .ldMHL_d8 0x34, .scf,
      .jrC_e8 0x34, .addHL_SP, .ldA_MHLdec, .decSP, .incA, .decA, .ldA_d8 0x34, .ccf].map some := by rfl
theorem test_base_row_4 :
    [0x40, 0x41, 0x42, 0x43, 0x44, 0x45, 0x46, 0x47, 0x48, 0x49, 0x4A, 0x4B, 0x4C, 0x4D, 0x4E, 0x4F].map (fun b => reads [b, 0x34, 0x12]) = [
      .ldB_B, .ldB_C, .ldB_D, .ldB_E, .ldB_H, .ldB_L, .ldB_MHL, .ldB_A, .ldC_B, .ldC_C, .ldC_D, .ldC_E, .ldC_H,
      .ldC_L, .ldC_MHL, .ldC_A].map some := by rfl
theorem test_base_row_5 :
    [0x50, 0x51, 0x52, 0x53, 0x54, 0x55, 0x56, 0x57, 0x58, 0x59, 0x5A, 0x5B, 0x5C, 0x5D, 0x5E, 0x5F].map (fun b => reads [b, 0x34, 0x12]) = [
      .ldD_B, .ldD_C, .ldD_D, .ldD_E, .ldD_H, .ldD_L, .ldD_MHL, .ldD_A, .ldE_B, .ldE_C, .ldE_D, .ldE_E, .ldE_H,
      .ldE_L, .ldE_MHL, .ldE_A].map some := by rfl
theorem test_base_row_6 :
    [0x60, 0x61, 0x62, 0x63, 0x64, 0x65, 0x66, 0x67, 0x68, 0x69, 0x6A, 0x6B, 0x6C, 0x6D, 0x6E, 0x6F].map (fun b => reads [b, 0x34, 0x12]) = [
      .ldH_B, .ldH_C, .ldH_D, .ldH_E, .ldH_H, .ldH_L, .ldH_MHL, .ldH_A, .ldL_B, .ldL_C, .ldL_D, .ldL_E, .ldL_H,
      .ldL_L, .ldL_MHL, .ldL_A].map some := by rfl
theorem test_base_row_7 :
    [0x70, 0x71, 0x72, 0x73, 0x74, 0x75, 0x76, 0x77, 0x78, 0x79, 0x7A, 0x7B, 0x7C, 0x7D, 0x7E, 0x7F].map (fun b => reads [b, 0x34, 0x12]) = [
      .ldMHL_B, .ldMHL_C, .ldMHL_D, .ldMHL_E, .ldMHL_H, .ldMHL_L, .halt, .ldMHL_A, .ldA_B, .ldA_C, .ldA_D,
      .ldA_E, .ldA_H, .ldA_L, .ldA_MHL, .ldA_A].map some := by rfl
theorem test_base_row_8 :
    [0x80, 0x81, 0x82, 0x83, 0x84, 0x85, 0x86, 0x87, 0x88, 0x89, 0x8A, 0x8B, 0x8C, 0x8D, 0x8E, 0x8F].map (fun b => reads [b, 0x34, 0x12]) = [
      .addA_B, .addA_C, .addA_D, .addA_E, .addA_H, .addA_L, .addA_MHL, .addA_A, .adcA_B, .adcA_C, .adcA_D,
      .adcA_E, .adcA_H, .adcA_L, .adcA_MHL, .adcA_A].map some := by rfl
theorem test_base_row_9 :
    [0x90, 0x91, 0x92, 0x93, 0x94, 0x95, 0x96, 0x97, 0x98, 0x99, 0x9A, 0x9B, 0x9C, 0x9D, 0x9E, 0x9F].map (fun b => reads [b, 0x34, 0x12]) = [
      .subB, .subC, .subD, .subE, .subH, .subL, .subMHL, .subA, .sbcA_B, .sbcA_C, .sbcA_D, .sbcA_E, .sbcA_H,
      .sbcA_L, .sbcA_MHL, .sbcA_A].map some := by rfl
theorem test_base_row_A :
    [0xA0, 0xA1, 0xA2, 0xA3, 0xA4, 0xA5, 0xA6, 0xA7, 0xA8, 0xA9, 0xAA, 0xAB, 0xAC, 0xAD, 0xAE, 0xAF].map (fun b => reads [b, 0x34, 0x12]) = [
      .andB, .andC, .andD, .andE, .andH, .andL, .andMHL, .andA, .xorB, .xorC, .xorD, .xorE, .xorH, .xorL,
      .xorMHL, .xorA].map some := by rfl
theorem test_base_row_B :
    [0xB0, 0xB1, 0xB2, 0xB3, 0xB4, 0xB5, 0xB6, 0xB7, 0xB8, 0xB9, 0xBA, 0xBB, 0xBC, 0xBD, 0xBE, 0xBF].map (fun b => reads [b, 0x34, 0x12]) = [
      .orB, .orC, .orD, .orE, .orH, .orL, .orMHL, .orA, .cpB, .cpC, .cpD, .cpE, .cpH, .cpL, .cpMHL, .cpA].map some := by rfl
theorem test_base_row_C :
    [0xC0, 0xC1, 0xC2, 0xC3, 0xC4, 0xC5, 0xC6, 0xC7, 0xC8, 0xC9, 0xCA, 0xCC, 0xCD, 0xCE, 0xCF].map (fun b => reads [b, 0x34, 0x12]) = [
      .retNZ, .popBC, .jpNZ_a16 0x1234, .jp_a16 0x1234, .callNZ_a16 0x1234, .pushBC, .addA_d8 0x34, .rst00,
      .retZ, .ret, .jpZ_a16 0x1234, .callZ_a16 0x1234, .call_a16 0x1234, .adcA_d8 0x34, .rst08].map some := by rfl
theorem test_base_row_D :
    [0xD0, 0xD1, 0xD2, 0xD3, 0xD4, 0xD5, 0xD6, 0xD7, 0xD8, 0xD9, 0xDA, 0xDB, 0xDC, 0xDD, 0xDE, 0xDF].map (fun b => reads [b, 0x34, 0x12]) = [
      .retNC, .popDE, .jpNC_a16 0x1234, .illegalD3, .callNC_a16 0x1234, .pushDE, .sub_d8 0x34, .rst10, .retC,
      .reti, .jpC_a16 0x1234, .illegalDB, .callC_a16 0x1234, .illegalDD, .sbcA_d8 0x34, .rst18].map some := by rfl
theorem test_base_row_E :
    [0xE0, 0xE1, 0xE2, 0xE3, 0xE4, 0xE5, 0xE6, 0xE7, 0xE8, 0xE9, 0xEA, 0xEB, 0xEC, 0xED, 0xEE, 0xEF].map (fun b => reads [b, 0x34, 0x12]) = [
      .ldhMa8_A 0x34, .popHL, .ldMC_A, .illegalE3, .illegalE4, .pushHL, .and_d8 0x34, .rst20, .addSP_e8 0x34,
      .jpHL, .ldMa16_A 0x1234, .illegalEB, .illegalEC, .illegalED, .xor_d8 0x34, .rst28].map some := by rfl
theorem test_base_row_F :
    [0xF0, 0xF1, 0xF2, 0xF3, 0xF4, 0xF5, 0xF6, 0xF7, 0xF8, 0xF9, 0xFA, 0xFB, 0xFC, 0xFD, 0xFE, 0xFF].map (fun b => reads [b, 0x34, 0x12]) = [
      .ldhA_Ma8 0x34, .popAF, .ldA_MC, .di, .illegalF4, .pushAF, .or_d8 0x34, .rst30, .ldHL_SPe8 0x34,
      .ldSP_HL, .ldA_Ma16 0x1234, .ei, .illegalFC, .illegalFD, .cp_d8 0x34, .rst38].map some := by rfl
theorem test_extended_row_0 :
    [0x00, 0x01, 0x02, 0x03, 0x04, 0x05, 0x06, 0x07, 0x08, 0x09, 0x0A, 0x0B, 0x0C, 0x0D, 0x0E, 0x0F].map (fun b => reads [0xCB, b, 0x12]) = [
      .rlc_B, .rlc_C, .rlc_D, .rlc_E, .rlc_H, .rlc_L, .rlc_MHL, .rlc_A, .rrc_B, .rrc_C, .rrc_D, .rrc_E, .rrc_H,
      .rrc_L, .rrc_MHL, .rrc_A].map some := by rfl
theorem test_extended_row_1 :
    [0x10, 0x11, 0x12, 0x13, 0x14, 0x15, 0x16, 0x17, 0x18, 0x19, 0x1A, 0x1B, 0x1C, 0x1D, 0x1E, 0x1F].map (fun b => reads [0xCB, b, 0x12]) = [
      .rl_B, .rl_C, .rl_D, .rl_E, .rl_H, .rl_L, .rl_MHL, .rl_A, .rr_B, .rr_C, .rr_D, .rr_E, .rr_H, .rr_L,
      .rr_MHL, .rr_A].map some := by rfl
theorem test_extended_row_2 :
    [0x20, 0x21, 0x22, 0x23, 0x24, 0x25, 0x26, 0x27, 0x28, 0x29, 0x2A, 0x2B, 0x2C, 0x2D, 0x2E, 0x2F].map (fun b => reads [0xCB, b, 0x12]) = [
      .slaB, .slaC, .slaD, .slaE, .slaH, .slaL, .slaMHL, .slaA, .sraB, .sraC, .sraD, .sraE, .sraH, .sraL,
      .sraMHL, .sraA].map some := by rfl
theorem test_extended_row_3 :
    [0x30, 0x31, 0x32, 0x33, 0x34, 0x35, 0x36, 0x37, 0x38, 0x39, 0x3A, 0x3B, 0x3C, 0x3D, 0x3E, 0x3F].map (fun b => reads [0xCB, b, 0x12]) = [
      .swapB, .swapC, .swapD, .swapE, .swapH, .swapL, .swapMHL, .swapA, .srlB, .srlC, .srlD, .srlE, .srlH,
      .srlL, .srlMHL, .srlA].map some := by rfl
theorem test_extended_row_4 :
    [0x40, 0x41, 0x42, 0x43, 0x44, 0x45, 0x46, 0x47, 0x48, 0x49, 0x4A, 0x4B, 0x4C, 0x4D, 0x4E, 0x4F].map (fun b => reads [0xCB, b, 0x12]) = [
      .bit0_B, .bit0_C, .bit0_D, .bit0_E, .bit0_H, .bit0_L, .bit0_MHL, .bit0_A, .bit1_B, .bit1_C, .bit1_D,
      .bit1_E, .bit1_H, .bit1_L, .bit1_MHL, .bit1_A].map some := by rfl
theorem test_extended_row_5 :
    [0x50, 0x51, 0x52, 0x53, 0x54, 0x55, 0x56, 0x57, 0x58, 0x59, 0x5A, 0x5B, 0x5C, 0x5D, 0x5E, 0x5F].map (fun b => reads [0xCB, b, 0x12]) = [
      .bit2_B, .bit2_C, .bit2_D, .bit2_E, .bit2_H, .bit2_L, .bit2_MHL, .bit2_A, .bit3_B, .bit3_C, .bit3_D,
      .bit3_E, .bit3_H, .bit3_L, .bit3_MHL, .bit3_A].map some := by rfl
theorem test_extended_row_6 :
    [0x60, 0x61, 0x62, 0x63, 0x64, 0x65, 0x66, 0x67, 0x68, 0x69, 0x6A, 0x6B, 0x6C, 0x6D, 0x6E, 0x6F].map (fun b => reads [0xCB, b, 0x12]) = [
      .bit4_B, .bit4_C, .bit4_D, .bit4_E, .bit4_H, .bit4_L, .bit4_MHL, .bit4_A, .bit5_B, .bit5_C, .bit5_D,
      .bit5_E, .bit5_H, .bit5_L, .bit5_MHL, .bit5_A].map some := by rfl
theorem test_extended_row_7 :
    [0x70, 0x71, 0x72, 0x73, 0x74, 0x75, 0x76, 0x77, 0x78, 0x79, 0x7A, 0x7B, 0x7C, 0x7D, 0x7E, 0x7F].map (fun b => reads [0xCB, b, 0x12]) = [
      .bit6_B, .bit6_C, .bit6_D, .bit6_E, .bit6_H, .bit6_L, .bit6_MHL, .bit6_A, .bit7_B, .bit7_C, .bit7_D,
      .bit7_E, .bit7_H, .bit7_L, .bit7_MHL, .bit7_A].map some := by rfl
theorem test_extended_row_8 :
    [0x80, 0x81, 0x82, 0x83, 0x84, 0x85, 0x86, 0x87, 0x88, 0x89, 0x8A, 0x8B, 0x8C, 0x8D, 0x8E, 0x8F].map (fun b => reads [0xCB, b, 0x12]) = [
      .res0_B, .res0_C, .res0_D, .res0_E, .res0_H, .res0_L, .res0_MHL, .res0_A, .res1_B, .res1_C, .res1_D,
      .res1_E, .res1_H, .res1_L, .res1_MHL, .res1_A].map some := by rfl
theorem test_extended_row_9 :
    [0x90, 0x91, 0x92, 0x93, 0x94, 0x95, 0x96, 0x97, 0x98, 0x99, 0x9A, 0x9B, 0x9C, 0x9D, 0x9E, 0x9F].map (fun b => reads [0xCB, b, 0x12]) = [
      .res2_B, .res2_C, .res2_D, .res2_E, .res2_H, .res2_L, .res2_MHL, .res2_A, .res3_B, .res3_C, .res3_D,
      .res3_E, .res3_H, .res3_L, .res3_MHL, .res3_A].map some := by rfl
theorem test_extended_row_A :
    [0xA0, 0xA1, 0xA2, 0xA3, 0xA4, 0xA5, 0xA6, 0xA7, 0xA8, 0xA9, 0xAA, 0xAB, 0xAC, 0xAD, 0xAE, 0xAF].map (fun b => reads [0xCB, b, 0x12]) = [
      .res4_B, .res4_C, .res4_D, .res4_E, .res4_H, .res4_L, .res4_MHL, .res4_A, .res5_B, .res5_C, .res5_D,
      .res5_E, .res5_H, .res5_L, .res5_MHL, .res5_A].map some := by rfl
theorem test_extended_row_B :
    [0xB0, 0xB1, 0xB2, 0xB3, 0xB4, 0xB5, 0xB6, 0xB7, 0xB8, 0xB9, 0xBA, 0xBB, 0xBC, 0xBD, 0xBE, 0xBF].map (fun b => reads [0xCB, b, 0x12]) = [
      .res6_B, .res6_C, .res6_D, .res6_E, .res6_H, .res6_L, .res6_MHL, .res6_A, .res7_B, .res7_C, .res7_D,
      .res7_E, .res7_H, .res7_L, .res7_MHL, .res7_A].map some := by rfl
theorem test_extended_row_C :
    [0xC0, 0xC1, 0xC2, 0xC3, 0xC4, 0xC5, 0xC6, 0xC7, 0xC8, 0xC9, 0xCA, 0xCB, 0xCC, 0xCD, 0xCE, 0xCF].map (fun b => reads [0xCB, b, 0x12]) = [
      .set0_B, .set0_C, .set0_D, .set0_E, .set0_H, .set0_L, .set0_MHL, .set0_A, .set1_B, .set1_C, .set1_D,
      .set1_E, .set1_H, .set1_L, .set1_MHL, .set1_A].map some := by rfl
theorem test_extended_row_D :
    [0xD0, 0xD1, 0xD2, 0xD3, 0xD4, 0xD5, 0xD6, 0xD7, 0xD8, 0xD9, 0xDA, 0xDB, 0xDC, 0xDD, 0xDE, 0xDF].map (fun b => reads [0xCB, b, 0x12]) = [
      .set2_B, .set2_C, .set2_D, .set2_E, .set2_H, .set2_L, .set2_MHL, .set2_A, .set3_B, .set3_C, .set3_D,
      .set3_E, .set3_H, .set3_L, .set3_MHL, .set3_A].map some := by rfl
theorem test_extended_row_E :
    [0xE0, 0xE1, 0xE2, 0xE3, 0xE4, 0xE5, 0xE6, 0xE7, 0xE8, 0xE9, 0xEA, 0xEB, 0xEC, 0xED, 0xEE, 0xEF].map (fun b => reads [0xCB, b, 0x12]) = [
      .set4_B, .set4_C, .set4_D, .set4_E, .set4_H, .set4_L, .set4_MHL, .set4_A, .set5_B, .set5_C, .set5_D,
      .set5_E, .set5_H, .set5_L, .set5_MHL, .set5_A].map some := by rfl
theorem test_extended_row_F :
    [0xF0, 0xF1, 0xF2, 0xF3, 0xF4, 0xF5, 0xF6, 0xF7, 0xF8, 0xF9, 0xFA, 0xFB, 0xFC, 0xFD, 0xFE, 0xFF].map (fun b => reads [0xCB, b, 0x12]) = [
      .set6_B, .set6_C, .set6_D, .set6_E, .set6_H, .set6_L, .set6_MHL, .set6_A, .set7_B, .set7_C, .set7_D,
      .set7_E, .set7_H, .set7_L, .set7_MHL, .set7_A].map some := by rfl

theorem test_truncated_word_is_rejected_by_name :
    decode [0xC3, 0x50] = .error (.truncated 0xC3) ∧ decode [0xCB] = .error (.truncated 0xCB) ∧
    decode [] = .error .noByte := ⟨rfl, rfl, rfl⟩

/-- The bytes after the instruction are left (R101). -/
theorem test_decode_leaves_the_rest : decode [0x3E, 0xAA, 0x76] = .ok (.ldA_d8 0xAA, [0x76]) := by rfl

/-- An immediate word is stored low byte first (R109). -/
theorem test_encode_word_is_little_endian : Instr.encode (.jp_a16 0x1234) = [0xC3, 0x34, 0x12] := by decide

/-! ### The host's numbering of a table word -/

theorem test_table_words :
    [(8, 0x00), (8, 0x3E), (8, 0xC3), (8, 0x10), (8, 0xD3), (16, 0xCB27), (16, 0xCBCB), (8, 0xCB)].map
      (fun p => decodeTableWord p.1 p.2) =
    [.nop, .ldA_d8 0x00, .jp_a16 0x0000, .stop 0x00, .illegalD3, .slaA, .set1_E, .rlc_B].map some := by rfl

/-- The fetched word is the placed one, and it runs as the first instruction after reset. -/
theorem test_with_fetch_word_runs :
    (State.reset.withFetchWord 8 0x3C).fetch = .incA ∧
    step (State.reset.withFetchWord 8 0x3C) = exec .incA (State.reset.withFetchWord 8 0x3C) ∧
    (State.reset.withFetchWord 16 0xCB37).fetch = .swapA ∧
    step (State.reset.withFetchWord 8 0xD3) = .fault (.unimplemented 0xD3 0x0100) := ⟨rfl, rfl, rfl, rfl⟩

/-! ### Single steps: vectors of 95_test_vectors.md section 4. Each theorem looks at F, PC and what the vector names. -/

theorem test_V100_ldB_E :
    ran { State.reset with b := 0x12, e := 0x9A } [0x43] (fun t => (t.f, t.b, t.pc)) =
      some (0x00, 0x9A, 0x0101) := by decide
theorem test_V101_ldA_A :
    ran { State.reset with a := 0x77, f := 0xF0 } [0x7F] (fun t => (t.f, t.pc)) = some (0xF0, 0x0101) := by decide
theorem test_V102_ldA_d8 :
    ran { State.reset with pc := 0x0000 } [0x3E, 0xAA] (fun t => (t.a, t.f, t.pc)) =
      some (0xAA, 0x00, 0x0002) := by decide
theorem test_V103_ldD_MHL :
    ran { State.reset with h := 0xC1, l := 0x23, gm := [(0xC123, 0x77)] } [0x56] (fun t => (t.f, t.d, t.pc)) =
      some (0x00, 0x77, 0x0101) := by decide
theorem test_V104_ldL_MHL :
    ran { State.reset with h := 0xC1, l := 0xFE, gm := [(0xC1FE, 0x42)] } [0x6E] (fun t => (t.f, t.l, t.pc)) =
      some (0x00, 0x42, 0x0101) := by decide
theorem test_V105_ldMHL_A :
    ran { State.reset with h := 0xC0, l := 0x00, a := 0x5A } [0x77]
      (fun t => (t.f, t.pc, t.readByte 0xC000, t.readByte 0xE000)) =
      some (0x00, 0x0101, 0x5A, 0x5A) := by decide
theorem test_V106_ldMHL_A :
    ran { State.reset with h := 0x20, l := 0x00, a := 0x01 } [0x77] (fun t => (t.f, t.pc, t.gm)) =
      some (0x00, 0x0101, []) := by rfl
theorem test_V108_ldMHL_d8 :
    ran { State.reset with h := 0xFE, l := 0xA0, gm := [(0xFEA0, 0x11)] } [0x36, 0x3C] (fun t => (t.f, t.pc, t.gm)) =
      some (0x00, 0x0102, [(0xFEA0, 0x11)]) := by rfl
theorem test_V110_ldA_MBC :
    ran { State.reset with b := 0x01, c := 0x50, cart := [(0x0150, 0xCE)] } [0x0A] (fun t => (t.a, t.f, t.pc)) =
      some (0xCE, 0x00, 0x0101) := by decide
theorem test_V111_ldA_MDE :
    ran { State.reset with d := 0xA0, e := 0x10, xram := [(0x0010, 0x42)] } [0x1A] (fun t => (t.a, t.f, t.pc)) =
      some (0x42, 0x00, 0x0101) := by decide
theorem test_V112_ldMBC_A :
    ran { State.reset with b := 0xFF, c := 0x80, a := 0x11 } [0x02] (fun t => (t.f, t.pc, t.readByte 0xFF80)) =
      some (0x00, 0x0101, 0x11) := by decide
theorem test_V113_ldMDE_A :
    ran { State.reset with d := 0xA0, e := 0x00, a := 0x99 } [0x12] (fun t => (t.f, t.pc, t.xram.read 0x0000)) =
      some (0x00, 0x0101, 0x99) := by decide
theorem test_V114_ldA_MHLinc :
    ran { State.reset with h := 0xFF, l := 0xFF, gm := [(0xFFFF, 0x09)] } [0x2A]
      (fun t => (t.a, t.f, t.h, t.l, t.pc)) =
      some (0x09, 0x00, 0x00, 0x00, 0x0101) := by decide
theorem test_V115_ldA_MHLdec :
    ran { State.reset with h := 0xC1, l := 0x00, gm := [(0xC100, 0x0A)] } [0x3A]
      (fun t => (t.a, t.f, t.h, t.l, t.pc)) =
      some (0x0A, 0x00, 0xC0, 0xFF, 0x0101) := by decide
theorem test_V116_ldMHLinc_A :
    ran { State.reset with h := 0xDF, l := 0xFF, a := 0x80 } [0x22]
      (fun t => (t.f, t.h, t.l, t.pc, t.readByte 0xDFFF, t.readByte 0xFFFF)) =
      some (0x00, 0xE0, 0x00, 0x0101, 0x80, 0x80) := by decide
theorem test_V117_ldMHLdec_A :
    ran { State.reset with h := 0x00, l := 0x00, a := 0x55 } [0x32] (fun t => (t.f, t.h, t.l, t.pc, t.gm)) =
      some (0x00, 0xFF, 0xFF, 0x0101, []) := by rfl
theorem test_V118_ldhMa8_A :
    ran { State.reset with a := 0x91 } [0xE0, 0x40] (fun t => (t.f, t.pc, t.readByte 0xFF40)) =
      some (0x00, 0x0102, 0x91) := by decide
theorem test_V119_ldhA_Ma8 :
    ran { State.reset with gm := [(0xFF44, 0x90)] } [0xF0, 0x44] (fun t => (t.a, t.f, t.pc)) =
      some (0x90, 0x00, 0x0102) := by decide
theorem test_V120_ldMC_A :
    ran { State.reset with c := 0x80, a := 0x3E } [0xE2] (fun t => (t.f, t.pc, t.readByte 0xFF80)) =
      some (0x00, 0x0101, 0x3E) := by decide
theorem test_V121_ldA_MC :
    ran { State.reset with c := 0xFF, gm := [(0xFFFF, 0x1F)] } [0xF2] (fun t => (t.a, t.f, t.pc)) =
      some (0x1F, 0x00, 0x0101) := by decide
theorem test_V122_ldMa16_A :
    ran { State.reset with a := 0x5A } [0xEA, 0x80, 0xDF]
      (fun t => (t.f, t.pc, t.readByte 0xDF80, t.readByte 0xFF80)) =
      some (0x00, 0x0103, 0x5A, 0x5A) := by decide
theorem test_V124_ldA_Ma16 :
    ran { State.reset with cart := [(0x4000, 0x66)] } [0xFA, 0x00, 0x40] (fun t => (t.a, t.f, t.pc)) =
      some (0x66, 0x00, 0x0103) := by decide
theorem test_V125_ldSP_d16 :
    ran State.reset [0x31, 0x00, 0xD0] (fun t => (t.f, t.sp, t.pc)) = some (0x00, 0xD000, 0x0103) := by decide
theorem test_V126_ldHL_d16 :
    ran State.reset [0x21, 0x23, 0xC1] (fun t => (t.f, t.h, t.l, t.pc)) =
      some (0x00, 0xC1, 0x23, 0x0103) := by decide
theorem test_V127_ldMa16_SP :
    ran { State.reset with sp := 0xFFF8 } [0x08, 0x00, 0xC1]
      (fun t => (t.f, t.pc, t.readByte 0xC100, t.readByte 0xC101, t.readByte 0xE100, t.readByte 0xE101)) =
      some (0x00, 0x0103, 0xF8, 0xFF, 0xF8, 0xFF) := by decide
theorem test_V128_ldMa16_SP :
    ran { State.reset with sp := 0x1234 } [0x08, 0xFF, 0xFF] (fun t => (t.f, t.pc, t.readByte 0xFFFF)) =
      some (0x00, 0x0103, 0x34) := by decide
theorem test_V129_ldSP_HL :
    ran { State.reset with h := 0xD0, l := 0x00 } [0xF9] (fun t => (t.f, t.sp, t.pc)) =
      some (0x00, 0xD000, 0x0101) := by decide
theorem test_V130_ldHL_SPe8 :
    ran { State.reset with sp := 0xFFF8, f := 0xC0 } [0xF8, 0x08] (fun t => (t.f, t.pc)) =
      some (0x30, 0x0102) := by decide
theorem test_V131_ldHL_SPe8 :
    ran { State.reset with sp := 0x0000 } [0xF8, 0xFF] (fun t => (t.f, t.h, t.l, t.pc)) =
      some (0x00, 0xFF, 0xFF, 0x0102) := by decide
theorem test_V200_addA_d8 :
    ran { State.reset with a := 0xF6 } [0xC6, 0x0A] (fun t => (t.a, t.f, t.pc)) =
      some (0x00, 0xB0, 0x0102) := by decide
theorem test_V201_addA_B :
    ran { State.reset with a := 0x00, b := 0x00, f := 0x70 } [0x80] (fun t => (t.f, t.pc)) =
      some (0x80, 0x0101) := by decide
theorem test_V205_adcA_C :
    ran { State.reset with a := 0xE1, c := 0x0F, f := 0x10 } [0x89] (fun t => (t.a, t.f, t.pc)) =
      some (0xF1, 0x20, 0x0101) := by decide
theorem test_V206_adcA_d8 :
    ran { State.reset with a := 0xFF, f := 0x10 } [0xCE, 0x00] (fun t => (t.a, t.f, t.pc)) =
      some (0x00, 0xB0, 0x0102) := by decide
theorem test_V209_subB :
    ran { State.reset with a := 0x3E, b := 0x3E } [0x90] (fun t => (t.a, t.f, t.pc)) =
      some (0x00, 0xC0, 0x0101) := by decide
theorem test_V210_sub_d8 :
    ran { State.reset with a := 0x3E } [0xD6, 0x0F] (fun t => (t.a, t.f, t.pc)) =
      some (0x2F, 0x60, 0x0102) := by decide
theorem test_V211_sub_d8 :
    ran { State.reset with a := 0x3E } [0xD6, 0x40] (fun t => (t.a, t.f, t.pc)) =
      some (0xFE, 0x50, 0x0102) := by decide
theorem test_V214_sbcA_H :
    ran { State.reset with a := 0x3B, h := 0x2A, f := 0x10 } [0x9C] (fun t => (t.a, t.f, t.pc)) =
      some (0x10, 0x40, 0x0101) := by decide
theorem test_V215_sbcA_d8 :
    ran { State.reset with a := 0x00, f := 0x10 } [0xDE, 0x00] (fun t => (t.a, t.f, t.pc)) =
      some (0xFF, 0x70, 0x0102) := by decide
theorem test_V217_sbcA_d8 :
    ran { State.reset with a := 0x00, f := 0x10 } [0xDE, 0xFF] (fun t => (t.f, t.pc)) =
      some (0xF0, 0x0102) := by decide
theorem test_V218_and_d8 :
    ran { State.reset with a := 0x5A, f := 0x50 } [0xE6, 0x3F] (fun t => (t.a, t.f, t.pc)) =
      some (0x1A, 0x20, 0x0102) := by decide
theorem test_V219_andB :
    ran { State.reset with a := 0xF0, b := 0x0F, f := 0x10 } [0xA0] (fun t => (t.a, t.f, t.pc)) =
      some (0x00, 0xA0, 0x0101) := by decide
theorem test_V221_xor_d8 :
    ran { State.reset with a := 0xFF, f := 0xF0 } [0xEE, 0x0F] (fun t => (t.a, t.f, t.pc)) =
      some (0xF0, 0x00, 0x0102) := by decide
theorem test_V222_xorA :
    ran { State.reset with a := 0x5C, f := 0xF0 } [0xAF] (fun t => (t.a, t.f, t.pc)) =
      some (0x00, 0x80, 0x0101) := by decide
theorem test_V223_or_d8 :
    ran { State.reset with a := 0x5A, f := 0xF0 } [0xF6, 0x0F] (fun t => (t.a, t.f, t.pc)) =
      some (0x5F, 0x00, 0x0102) := by decide
theorem test_V224_orB :
    ran { State.reset with a := 0x00, b := 0x00, f := 0x70 } [0xB0] (fun t => (t.f, t.pc)) =
      some (0x80, 0x0101) := by decide
theorem test_V225_cp_d8 :
    ran { State.reset with a := 0x3C } [0xFE, 0x2F] (fun t => (t.f, t.pc)) = some (0x60, 0x0102) := by decide
theorem test_V228_cpMHL :
    ran { State.reset with a := 0x00, h := 0x01, l := 0x00, f := 0x00 } [0xBE] (fun t => (t.f, t.pc)) =
      some (0x70, 0x0101) := by decide
theorem test_V300_addHL_BC :
    ran { State.reset with h := 0x8A, l := 0x23, b := 0x06, c := 0x05, f := 0x80 } [0x09]
      (fun t => (t.f, t.h, t.l, t.pc)) =
      some (0xA0, 0x90, 0x28, 0x0101) := by decide
theorem test_V301_addHL_HL :
    ran { State.reset with h := 0x80, l := 0x00, f := 0x00 } [0x29] (fun t => (t.f, t.h, t.pc)) =
      some (0x10, 0x00, 0x0101) := by decide
theorem test_V306_addSP_e8 :
    ran { State.reset with sp := 0xFFF8, f := 0xC0 } [0xE8, 0x08] (fun t => (t.f, t.sp, t.pc)) =
      some (0x30, 0x0000, 0x0102) := by decide
theorem test_V308_addSP_e8 :
    ran { State.reset with sp := 0x0000 } [0xE8, 0xFF] (fun t => (t.f, t.sp, t.pc)) =
      some (0x00, 0xFFFF, 0x0102) := by decide
theorem test_V313_incBC :
    ran { State.reset with b := 0xFF, c := 0xFF, f := 0x00 } [0x03] (fun t => (t.f, t.b, t.c, t.pc)) =
      some (0x00, 0x00, 0x00, 0x0101) := by decide
theorem test_V314_incDE :
    ran { State.reset with d := 0x23, e := 0x5F } [0x13] (fun t => (t.f, t.e, t.pc)) =
      some (0x00, 0x60, 0x0101) := by decide
theorem test_V316_decBC :
    ran { State.reset with b := 0x01, c := 0x00 } [0x0B] (fun t => (t.f, t.b, t.c, t.pc)) =
      some (0x00, 0x00, 0xFF, 0x0101) := by decide
theorem test_V317_decDE :
    ran { State.reset with d := 0x00, e := 0x00, f := 0x80 } [0x1B] (fun t => (t.f, t.d, t.e, t.pc)) =
      some (0x80, 0xFF, 0xFF, 0x0101) := by decide
theorem test_V400_incA :
    ran { State.reset with a := 0xFF, f := 0x10 } [0x3C] (fun t => (t.a, t.f, t.pc)) =
      some (0x00, 0xB0, 0x0101) := by decide
theorem test_V401_incB :
    ran { State.reset with b := 0x0F } [0x04] (fun t => (t.f, t.b, t.pc)) = some (0x20, 0x10, 0x0101) := by decide
theorem test_V403_incMHL :
    ran { State.reset with h := 0xC0, l := 0x10, gm := [(0xC010, 0x4F)] } [0x34]
      (fun t => (t.f, t.pc, t.readByte 0xC010, t.readByte 0xE010)) =
      some (0x20, 0x0101, 0x50, 0x50) := by decide
theorem test_V404_incMHL :
    ran { State.reset with h := 0x01, l := 0x50, cart := [(0x0150, 0xFF)] } [0x34] (fun t => (t.f, t.pc, t.gm)) =
      some (0xA0, 0x0101, []) := by rfl
theorem test_V405_decB :
    ran { State.reset with b := 0x01 } [0x05] (fun t => (t.f, t.b, t.pc)) = some (0xC0, 0x00, 0x0101) := by decide
theorem test_V406_decC :
    ran { State.reset with c := 0x00, f := 0x10 } [0x0D] (fun t => (t.f, t.c, t.pc)) =
      some (0x70, 0xFF, 0x0101) := by decide
theorem test_V408_decMHL :
    ran { State.reset with h := 0xFF, l := 0x80 } [0x35] (fun t => (t.f, t.pc, t.readByte 0xFF80)) =
      some (0x60, 0x0101, 0xFF) := by decide
theorem test_V409_decMHL :
    ran { State.reset with h := 0xFE, l := 0xFF, gm := [(0xFEFF, 0x01)] } [0x35] (fun t => (t.f, t.pc, t.gm)) =
      some (0xC0, 0x0101, [(0xFEFF, 0x01)]) := by rfl
theorem test_V500_rlca :
    ran { State.reset with a := 0x85 } [0x07] (fun t => (t.a, t.f, t.pc)) = some (0x0B, 0x10, 0x0101) := by decide
theorem test_V502_rrca :
    ran { State.reset with a := 0x3B } [0x0F] (fun t => (t.a, t.f, t.pc)) = some (0x9D, 0x10, 0x0101) := by decide
theorem test_V504_rla :
    ran { State.reset with a := 0x95, f := 0x10 } [0x17] (fun t => (t.a, t.f, t.pc)) =
      some (0x2B, 0x10, 0x0101) := by decide
theorem test_V506_rra :
    ran { State.reset with a := 0x81, f := 0x00 } [0x1F] (fun t => (t.a, t.f, t.pc)) =
      some (0x40, 0x10, 0x0101) := by decide
theorem test_V508_rlc_A :
    ran { State.reset with a := 0x85 } [0xCB, 0x07] (fun t => (t.a, t.f, t.pc)) =
      some (0x0B, 0x10, 0x0102) := by decide
theorem test_V509_rlc_B :
    ran { State.reset with b := 0x00, f := 0xF0 } [0xCB, 0x00] (fun t => (t.f, t.pc)) =
      some (0x80, 0x0102) := by decide
theorem test_V511_rrc_C :
    ran { State.reset with c := 0x3B } [0xCB, 0x09] (fun t => (t.f, t.c, t.pc)) =
      some (0x10, 0x9D, 0x0102) := by decide
theorem test_V512_rrc_D :
    ran { State.reset with d := 0x01 } [0xCB, 0x0A] (fun t => (t.f, t.d, t.pc)) =
      some (0x10, 0x80, 0x0102) := by decide
theorem test_V513_rl_L :
    ran { State.reset with l := 0x95, f := 0x10 } [0xCB, 0x15] (fun t => (t.f, t.l, t.pc)) =
      some (0x10, 0x2B, 0x0102) := by decide
theorem test_V514_rl_B :
    ran { State.reset with b := 0x80, f := 0x00 } [0xCB, 0x10] (fun t => (t.f, t.b, t.pc)) =
      some (0x90, 0x00, 0x0102) := by decide
theorem test_V516_rr_D :
    ran { State.reset with d := 0x8A, f := 0x00 } [0xCB, 0x1A] (fun t => (t.f, t.d, t.pc)) =
      some (0x00, 0x45, 0x0102) := by decide
theorem test_V517_rr_E :
    ran { State.reset with e := 0x01, f := 0x00 } [0xCB, 0x1B] (fun t => (t.f, t.e, t.pc)) =
      some (0x90, 0x00, 0x0102) := by decide
theorem test_V519_slaA :
    ran { State.reset with a := 0xAA } [0xCB, 0x27] (fun t => (t.a, t.f, t.pc)) =
      some (0x54, 0x10, 0x0102) := by decide
theorem test_V520_slaH :
    ran { State.reset with h := 0x80 } [0xCB, 0x24] (fun t => (t.f, t.h, t.pc)) =
      some (0x90, 0x00, 0x0102) := by decide
theorem test_V522_slaMHL :
    ran { State.reset with h := 0x01, l := 0x50, cart := [(0x0150, 0x81)] } [0xCB, 0x26]
      (fun t => (t.f, t.pc, t.gm)) =
      some (0x10, 0x0102, []) := by rfl
theorem test_V523_sraA :
    ran { State.reset with a := 0x8A } [0xCB, 0x2F] (fun t => (t.a, t.f, t.pc)) =
      some (0xC5, 0x00, 0x0102) := by decide
theorem test_V524_sraB :
    ran { State.reset with b := 0x01 } [0xCB, 0x28] (fun t => (t.f, t.b, t.pc)) =
      some (0x90, 0x00, 0x0102) := by decide
theorem test_V527_swapA :
    ran { State.reset with a := 0x42 } [0xCB, 0x37] (fun t => (t.a, t.f, t.pc)) =
      some (0x24, 0x00, 0x0102) := by decide
theorem test_V528_swapB :
    ran { State.reset with b := 0x00, f := 0x10 } [0xCB, 0x30] (fun t => (t.f, t.pc)) =
      some (0x80, 0x0102) := by decide
theorem test_V531_srlMHL :
    ran { State.reset with h := 0xC0, l := 0x00, gm := [(0xC000, 0xFE)] } [0xCB, 0x3E]
      (fun t => (t.f, t.pc, t.readByte 0xC000, t.readByte 0xE000)) =
      some (0x00, 0x0102, 0x7F, 0x7F) := by decide
theorem test_V532_srlA :
    ran { State.reset with a := 0x01 } [0xCB, 0x3F] (fun t => (t.a, t.f, t.pc)) =
      some (0x00, 0x90, 0x0102) := by decide
theorem test_V600_bit7_A :
    ran { State.reset with a := 0x80, f := 0x10 } [0xCB, 0x7F] (fun t => (t.f, t.pc)) =
      some (0x30, 0x0102) := by decide
theorem test_V601_bit0_A :
    ran { State.reset with a := 0x80, f := 0x10 } [0xCB, 0x47] (fun t => (t.f, t.pc)) =
      some (0xB0, 0x0102) := by decide
theorem test_V604_bit0_MHL :
    ran { State.reset with h := 0x01, l := 0x00, f := 0x00 } [0xCB, 0x46] (fun t => (t.f, t.pc)) =
      some (0x20, 0x0102) := by decide
theorem test_V605_set7_L :
    ran { State.reset with l := 0x3B } [0xCB, 0xFD] (fun t => (t.f, t.l, t.pc)) =
      some (0x00, 0xBB, 0x0102) := by decide
theorem test_V606_set1_E :
    ran { State.reset with e := 0x00, f := 0xF0 } [0xCB, 0xCB] (fun t => (t.f, t.e, t.pc)) =
      some (0xF0, 0x02, 0x0102) := by decide
theorem test_V607_set0_MHL :
    ran { State.reset with h := 0x01, l := 0x50 } [0xCB, 0xC6] (fun t => (t.f, t.pc, t.gm)) =
      some (0x00, 0x0102, []) := by rfl
theorem test_V609_res3_MHL :
    ran { State.reset with h := 0xC1, l := 0x00, gm := [(0xC100, 0xFF)] } [0xCB, 0x9E]
      (fun t => (t.f, t.pc, t.readByte 0xC100, t.readByte 0xE100)) =
      some (0x00, 0x0102, 0xF7, 0xF7) := by decide
theorem test_V610_res0_A :
    ran { State.reset with a := 0xFF, f := 0xF0 } [0xCB, 0x87] (fun t => (t.a, t.f, t.pc)) =
      some (0xFE, 0xF0, 0x0102) := by decide
theorem test_V700_jp_a16 :
    ran State.reset [0xC3, 0x50, 0x01] (fun t => (t.f, t.pc)) = some (0x00, 0x0150) := by decide
theorem test_V702_jpZ_a16 :
    ran { State.reset with f := 0x80, pc := 0x0200 } [0xCA, 0x00, 0xC0] (fun t => (t.f, t.pc)) =
      some (0x80, 0xC000) := by decide
theorem test_V704_jpNZ_a16 :
    ran { State.reset with f := 0x70, pc := 0x0200 } [0xC2, 0x00, 0xC0] (fun t => (t.f, t.pc)) =
      some (0x70, 0xC000) := by decide
theorem test_V707_jpHL :
    ran { State.reset with h := 0x40, l := 0x00 } [0xE9] (fun t => (t.f, t.pc)) = some (0x00, 0x4000) := by decide
theorem test_V708_jr_e8 :
    ran { State.reset with pc := 0x0150 } [0x18, 0x05] (fun t => (t.f, t.pc)) = some (0x00, 0x0157) := by decide
theorem test_V711_jr_e8 :
    ran { State.reset with pc := 0xFFFE } [0x18, 0x10] (fun t => (t.f, t.pc)) = some (0x00, 0x0010) := by decide
theorem test_V713_jrNZ_e8 :
    ran { State.reset with f := 0x00, pc := 0x0106 } [0x20, 0xFC] (fun t => (t.f, t.pc)) =
      some (0x00, 0x0104) := by decide
theorem test_V715_jrZ_e8 :
    ran { State.reset with f := 0x80 } [0x28, 0x7F] (fun t => (t.f, t.pc)) = some (0x80, 0x0181) := by decide
theorem test_V718_call_a16 :
    ran { State.reset with sp := 0xD000, pc := 0x0106 } [0xCD, 0x0C, 0x01]
      (fun t => (t.f, t.sp, t.pc, t.readByte 0xCFFE, t.readByte 0xCFFF, t.readByte 0xEFFE)) =
      some (0x00, 0xCFFE, 0x010C, 0x09, 0x01, 0x09) := by decide
theorem test_V719_call_a16 :
    ran { State.reset with sp := 0x0001 } [0xCD, 0x00, 0x20] (fun t => (t.f, t.sp, t.pc, t.readByte 0xFFFF)) =
      some (0x00, 0xFFFF, 0x2000, 0x03) := by decide
theorem test_V721_callC_a16 :
    ran { State.reset with f := 0x00, pc := 0x0300 } [0xDC, 0x00, 0x20] (fun t => (t.f, t.pc)) =
      some (0x00, 0x0303) := by decide
theorem test_V723_callNZ_a16 :
    ran { State.reset with f := 0x80, sp := 0xD000 } [0xC4, 0x00, 0x20] (fun t => (t.f, t.pc)) =
      some (0x80, 0x0103) := by decide
theorem test_V724_ret :
    ran { State.reset with sp := 0xCFFE, gm := [(0xCFFE, 0x09), (0xCFFF, 0x01)] } [0xC9]
      (fun t => (t.f, t.sp, t.pc)) =
      some (0x00, 0xD000, 0x0109) := by decide
theorem test_V725_ret :
    ran { State.reset with sp := 0xFFFF, cart := [(0x0000, 0x12)], gm := [(0xFFFF, 0x34)] } [0xC9]
      (fun t => (t.f, t.sp, t.pc)) =
      some (0x00, 0x0001, 0x1234) := by decide
theorem test_V726_retNZ :
    ran { State.reset with f := 0x80, pc := 0x0400 } [0xC0] (fun t => (t.f, t.pc)) = some (0x80, 0x0401) := by decide
theorem test_V728_retC :
    ran { State.reset with f := 0x10, sp := 0xC000, gm := [(0xC000, 0xEF), (0xC001, 0xBE)] } [0xD8]
      (fun t => (t.f, t.sp, t.pc)) =
      some (0x10, 0xC002, 0xBEEF) := by decide
theorem test_V729_reti :
    ran { State.reset with sp := 0xFFFC, gm := [(0xFFFC, 0x50), (0xFFFD, 0x01)] } [0xD9]
      (fun t => (t.f, t.sp, t.ime, t.pc)) =
      some (0x00, 0xFFFE, true, 0x0150) := by decide
theorem test_V730_rst28 :
    ran { State.reset with pc := 0x0234 } [0xEF] (fun t => (t.f, t.sp, t.pc, t.readByte 0xFFFC, t.readByte 0xFFFD)) =
      some (0x00, 0xFFFC, 0x0028, 0x35, 0x02) := by decide
theorem test_V731_rst00 :
    ran { State.reset with sp := 0x0001, pc := 0x7FFE } [0xC7] (fun t => (t.f, t.sp, t.pc, t.readByte 0xFFFF)) =
      some (0x00, 0xFFFF, 0x0000, 0xFF) := by decide
theorem test_V800_pushBC :
    ran { State.reset with b := 0x12, c := 0x34, sp := 0xD000 } [0xC5]
      (fun t => (t.f, t.sp, t.pc, t.readByte 0xCFFE, t.readByte 0xCFFF, t.readByte 0xEFFE)) =
      some (0x00, 0xCFFE, 0x0101, 0x34, 0x12, 0x34) := by decide
theorem test_V801_pushAF :
    ran { State.reset with a := 0x9A, f := 0x50, sp := 0xFFFE } [0xF5]
      (fun t => (t.f, t.sp, t.pc, t.readByte 0xFFFC, t.readByte 0xFFFD)) =
      some (0x50, 0xFFFC, 0x0101, 0x50, 0x9A) := by decide
theorem test_V804_pushBC :
    ran { State.reset with b := 0x12, c := 0x34, sp := 0x8000 } [0xC5] (fun t => (t.f, t.sp, t.pc, t.gm)) =
      some (0x00, 0x7FFE, 0x0101, []) := by rfl
theorem test_V805_popDE :
    ran { State.reset with sp := 0xCFFE, gm := [(0xCFFE, 0x34), (0xCFFF, 0x12)] } [0xD1]
      (fun t => (t.f, t.d, t.e, t.sp, t.pc)) =
      some (0x00, 0x12, 0x34, 0xD000, 0x0101) := by decide
theorem test_V806_popHL :
    ran { State.reset with sp := 0xFFFF, cart := [(0x0000, 0xAB)], gm := [(0xFFFF, 0xCD)] } [0xE1]
      (fun t => (t.f, t.h, t.l, t.sp, t.pc)) =
      some (0x00, 0xAB, 0xCD, 0x0001, 0x0101) := by decide
theorem test_V808_popAF :
    ran { State.reset with sp := 0xCFFE, gm := [(0xCFFE, 0x5F), (0xCFFF, 0x9A)] } [0xF1]
      (fun t => (t.a, t.f, t.sp, t.pc)) =
      some (0x9A, 0x50, 0xD000, 0x0101) := by decide
theorem test_V810_popAF :
    ran { State.reset with sp := 0xC000, a := 0x11, f := 0xF0 } [0xF1] (fun t => (t.a, t.f, t.sp, t.pc)) =
      some (0x00, 0x00, 0xC002, 0x0101) := by decide
theorem test_V900_nop : ran State.reset [0x00] (fun t => (t.f, t.pc)) = some (0x00, 0x0101) := by decide
theorem test_V901_halt :
    ran { State.reset with pc := 0x010B } [0x76] (fun t => (t.f, t.halted, t.pc)) =
      some (0x00, true, 0x010C) := by decide
theorem test_V903_stop :
    ran { State.reset with pc := 0x0150 } [0x10, 0x00] (fun t => (t.f, t.pc)) = some (0x00, 0x0152) := by decide
theorem test_V905_scf :
    ran { State.reset with f := 0xE0 } [0x37] (fun t => (t.f, t.pc)) = some (0x90, 0x0101) := by decide
theorem test_V907_ccf :
    ran { State.reset with f := 0xF0 } [0x3F] (fun t => (t.f, t.pc)) = some (0x80, 0x0101) := by decide
theorem test_V909_cpl :
    ran { State.reset with a := 0x35, f := 0x00 } [0x2F] (fun t => (t.a, t.f, t.pc)) =
      some (0xCA, 0x60, 0x0101) := by decide
theorem test_V911_daa :
    ran { State.reset with a := 0x7D, f := 0x00 } [0x27] (fun t => (t.a, t.f, t.pc)) =
      some (0x83, 0x00, 0x0101) := by decide
theorem test_V912_daa :
    ran { State.reset with a := 0x4B, f := 0x60 } [0x27] (fun t => (t.a, t.f, t.pc)) =
      some (0x45, 0x40, 0x0101) := by decide
theorem test_V921_di :
    ran { State.reset with ime := true } [0xF3] (fun t => (t.f, t.ime, t.pc)) =
      some (0x00, false, 0x0101) := by decide
theorem test_V922_ei :
    ran { State.reset with ime := false } [0xFB] (fun t => (t.f, t.ime, t.pc)) =
      some (0x00, true, 0x0101) := by decide

/-- V902: with HALTED = 1 the step fetches nothing and changes nothing. -/
theorem test_V902_halted :
    step (placed { State.reset with halted := true, a := 0x01 } [0x3C]) =
      .next (placed { State.reset with halted := true, a := 0x01 } [0x3C]) := by rfl

/-- V903 to V934: the Unimplemented signals. -/
theorem test_V904_stop_wrong_pad :
    signal { State.reset with pc := 0x0150 } [0x10, 0x01] = some (.unimplemented 0x10 0x0150) := by decide
theorem test_V924_to_V934_holes :
    holes.all (fun op => signal { State.reset with pc := 0x0200 } [op] == some (.unimplemented op 0x0200)) = true := by
  decide

/-- The three cycle counts the source gives (S5, S7), and the class values of V703, V718 and V902. -/
theorem test_reported_results :
    [placed State.reset [0x3E, 0xAA], placed State.reset [0x07], placed State.reset [0xCB, 0x07],
      placed { State.reset with f := 0x70 } [0xCA, 0x00, 0xC0], placed State.reset [0xCD, 0x00, 0x20]].map stepResult =
    [.retired 8, .retired 4, .retired 8, .retired 12, .retired 24] := by decide

/-- The prefix row's own meaning runs what the byte after it selects: CB 37 is SWAP A (R117, R371). -/
theorem test_prefix_row_dispatches :
    exec .prefixCB (placed { State.reset with a := 0x42 } [0xCB, 0x37]) =
      exec .swapA (placed { State.reset with a := 0x42 } [0xCB, 0x37]) := by rfl

/-! ### The router: vectors M of 95_test_vectors.md section 3 -/

/-- M3, M4: the ROM window at the selected bank. -/
theorem test_M3_rom_window :
    ({ State.reset with romBanks := 4, romb := 3, cart := [(0xFFFF, 0x3F)] } : State).readByte 0x7FFF = 0x3F := by decide
theorem test_M4_bank_zero_in_the_window :
    ({ State.reset with romb := 0, cart := [(0x0005, 0x05)] } : State).readByte 0x4005 = 0x05 := by decide
theorem test_M7_mirror_outside_the_echo :
    (State.reset.writeByte 0xDE00 0xAB).readByte 0xFE00 = 0xAB := by decide
theorem test_M8_raw_mirror_store :
    (({ State.reset with gm := [(0xFEA0, 0x11)] } : State).writeByte 0xDEA0 0xAB).readByte 0xFEA0 = 0xAB := by decide
theorem test_M9_high_page_has_no_mirror :
    ((State.reset.writeByte 0xDFFF 0xAB).writeByte 0xFFFF 0x01).gm = [(0xDFFF, 0xAB), (0xFFFF, 0x01)] := by decide
theorem test_M10_protected :
    (({ State.reset with gm := [(0xFEA0, 0x11)] } : State).writeByte 0xFEA0 0xAB).readByte 0xFEA0 = 0x11 := by decide
theorem test_M14_ram_bank :
    (match selectRamBank 1 ({ State.reset with ramBanks := 2 }.writeByte 0xA000 0xAB) with
      | .ok t => some (t.readByte 0xA000, t.xram)
      | .error _ => none) = some (0x00, [(0x0000, 0xAB)]) := by decide
theorem test_M20_word_across_the_echo_edge :
    (State.reset.writeWord 0xDFFF 0xBEEF).gm =
      [(0xC000, 0xBE), (0xDFFF, 0xEF), (0xE000, 0xBE), (0xFFFF, 0xEF)] := by decide


/-! ### DIAG events (R6, R75): the kind, the address and the value of each dropped write -/

theorem test_diag_of_a_dropped_write :
    diagEvents true (placed { State.reset with h := 0xFE, l := 0xA0, a := 0x5A } [0x77]) =
      [⟨.protectedRange, 0xFEA0, 0x5A⟩] := by rfl
/-- ROM writes are silent (R75), and the mirror store into the protected range is no dropped write (R70). -/
theorem test_no_diag_of_rom_or_mirror_writes :
    diagEvents true (placed { State.reset with h := 0x20, l := 0x00, a := 0x01 } [0x77]) = [] ∧
    diagEvents true (placed { State.reset with h := 0xDE, l := 0xA0, a := 0x01 } [0x77]) = [] := ⟨rfl, rfl⟩

/-! ### Witnesses: for each obligation with hypotheses, instructions, states and operands that meet them -/

/-- A state of a run: code at 0xC000, a stack at the bottom of video RAM, decimal bytes in A and B, Z set. -/
def sample : State := { State.reset with
  a := 0x15, f := 0x80, b := 0x27, h := 0xC1, l := 0x00, pc := 0xC000, sp := 0x8002
  gm := [(0xC000, 0xEA), (0xC001, 0x03), (0xC002, 0xC0), (0xE000, 0xEA), (0xE001, 0x03), (0xE002, 0xC0)] }

theorem witness_sample_meets_the_invariant : sample.Inv := by constructor <;> decide

/-- A RESET with an image of HALT opcodes and a power-on AF. -/
def resetCall : ResetParams :=
  { ResetParams.default with image := List.replicate (2 * 0x4000) 0x76, af := 0x01B5, gmInit := [(0xFFFF, 0x01)] }

theorem resetCall_valid : resetCall.imageValid = true := by
  show (decide (2 ≤ 2) && (List.replicate (2 * 0x4000) (0x76 : Byte)).length == 2 * 0x4000) = true
  rw [List.length_replicate]; rfl

theorem resetCall_succeeds : hostReset resetCall = .ok resetCall.start := by
  rw [hostReset, resetCall_valid]; rfl

theorem witness_DecodeEncodeRoundTrip :
    Instr.set7_A ≠ .prefixCB ∧ Instr.illegalFD ≠ .prefixCB ∧ Instr.stop 0x01 ≠ .prefixCB := by decide
theorem witness_EncodeDecodeRoundTrip : decode [0xCB, 0x27, 0xFF] = .ok (.slaA, [0xFF]) := by rfl
theorem witness_DecodeConsumesLength :
    opLength 0xC3 ≤ [0x34, 0x12].length + 1 ∧ [(0x34 : Byte)].length + 1 < opLength 0xC3 ∧
    opLength 0xCB ≤ [0x00].length + 1 ∧ ([] : List Byte).length + 1 < opLength 0xCB ∧
    opLength 0x00 ≤ ([] : List Byte).length + 1 := by decide
theorem witness_StepRunsDecodedInstruction :
    sample.halted = false ∧ decode [sample.readByte sample.pc, sample.readByte (sample.pc + 1),
      sample.readByte (sample.pc + 2)] = .ok (.ldMa16_A 0xC003, []) := ⟨rfl, rfl⟩
theorem witness_StepEndsInOneReportedWay :
    stepResult sample = .retired 16 ∧ stepResult { sample with halted := true } = .idle 4 ∧
    stepResult (placed sample [0xD3]) = .unimplemented 0xD3 0xC000 := ⟨rfl, rfl, rfl⟩
theorem witness_UnimplementedExactlyForHoles :
    step (placed sample [0xFD]) = .fault (.unimplemented 0xFD 0xC000) ∧
    step (placed sample [0x10, 0x01]) = .fault (.unimplemented 0x10 0xC000) ∧
    (placed sample [0xD3]).readByte (placed sample [0xD3]).pc ∈ holes ∧
    (placed sample [0x10, 0xFF]).readByte ((placed sample [0x10, 0xFF]).pc + 1) ≠ 0x00 := ⟨rfl, rfl, by decide, by decide⟩
theorem witness_IllegalRowsSignal :
    Instr.form .illegalD3 = .illegal 0xD3 ∧ Instr.form .illegalFD = .illegal 0xFD := ⟨rfl, rfl⟩
theorem witness_WellFormedAlwaysRetires :
    Instr.wellFormed (.ldA_d8 0xFF) = true ∧ Instr.wellFormed (.stop 0x00) = true := by decide
theorem witness_RegisterLoads :
    Instr.form .ldB_A = .ldRR .b .a ∧ Instr.form (.ldA_d8 0xFF) = .ldRN .a 0xFF ∧ Instr.form .ldH_MHL = .ldRM .h :=
  ⟨rfl, rfl, rfl⟩
theorem witness_StoresThroughHL : Instr.form .ldMHL_L = .ldMR .l ∧ Instr.form (.ldMHL_d8 0x3C) = .ldMN 0x3C := ⟨rfl, rfl⟩
theorem witness_AddSubtractCompare :
    Instr.form .addA_A = .alu .add (.loc (.reg .a)) ∧ Instr.form .subMHL = .alu .sub (.loc .mHL) ∧
    Instr.form (.cp_d8 0xFF) = .alu .cp (.imm 0xFF) := ⟨rfl, rfl, rfl⟩
theorem witness_CarryArithmetic :
    Instr.form .adcA_MHL = .alu .adc (.loc .mHL) ∧ Instr.form (.sbcA_d8 0xFF) = .alu .sbc (.imm 0xFF) := ⟨rfl, rfl⟩
theorem witness_LogicOperations :
    Instr.form .andA = .alu .and (.loc (.reg .a)) ∧ Instr.form .xorMHL = .alu .xor (.loc .mHL) ∧
    Instr.form (.or_d8 0x00) = .alu .or (.imm 0x00) := ⟨rfl, rfl, rfl⟩
theorem witness_IncrementDecrementByte :
    Instr.form .incA = .inc8 (.reg .a) ∧ Instr.form .decMHL = .dec8 .mHL := ⟨rfl, rfl⟩
theorem witness_IncrementDecrementPair :
    Instr.form .incSP = .incPair .sp ∧ Instr.form .decBC = .decPair .bc := ⟨rfl, rfl⟩
theorem witness_AddPairToHL : Instr.form .addHL_HL = .addHL .hl ∧ Instr.form .addHL_SP = .addHL .sp := ⟨rfl, rfl⟩
theorem witness_RotatesAndShifts :
    Instr.form .rlc_B = .rot .rlc (.reg .b) ∧ Instr.form .rrc_A = .rot .rrc (.reg .a) ∧
    Instr.form .rl_MHL = .rot .rl .mHL ∧ Instr.form .rr_C = .rot .rr (.reg .c) ∧
    Instr.form .slaA = .rot .sla (.reg .a) ∧ Instr.form .swapMHL = .rot .swap .mHL := ⟨rfl, rfl, rfl, rfl, rfl, rfl⟩
theorem witness_ShiftsRight :
    Instr.form .sraMHL = .rot .sra .mHL ∧ Instr.form .srlL = .rot .srl (.reg .l) := ⟨rfl, rfl⟩
theorem witness_BitOperations :
    Instr.form .bit0_B = .bit 0 (.reg .b) ∧ Instr.form .set7_MHL = .set 7 .mHL ∧
    Instr.form .res7_A = .res 7 (.reg .a) := ⟨rfl, rfl, rfl⟩
theorem witness_JumpsSetPC :
    Instr.form (.jp_a16 0xFFFF) = .jp 0xFFFF ∧ Instr.form (.jpNZ_a16 0x0000) = .jpCc .nz 0x0000 ∧
    Instr.form (.jr_e8 0x80) = .jr 0x80 ∧ Instr.form (.jrC_e8 0x7F) = .jrCc .c 0x7F ∧
    sample.cond .z = true ∧ sample.cond .nz = false := ⟨rfl, rfl, rfl, rfl, rfl, rfl⟩
theorem witness_CallsPushReturnAddress :
    Instr.form (.call_a16 0x4000) = .call 0x4000 ∧ Instr.form (.callZ_a16 0x4000) = .callCc .z 0x4000 ∧
    sample.cond .z = true ∧ Instr.form (.callC_a16 0x4000) = .callCc .c 0x4000 ∧ sample.cond .c = false ∧
    Instr.form .rst38 = .rst 7 := ⟨rfl, rfl, rfl, rfl, rfl, rfl⟩
theorem witness_ReturnsPopPC :
    Instr.form .ret = .ret ∧ Instr.form .retNC = .retCc .nc ∧ sample.cond .nc = true ∧
    Instr.form .retNZ = .retCc .nz ∧ sample.cond .nz = false := ⟨rfl, rfl, rfl, rfl, rfl⟩
theorem witness_PushPopRestores :
    sample.Inv ∧ Instr.form .pushAF = .push .af ∧ Instr.form .popAF = .pop .af ∧
    (∃ t u, exec .pushAF sample = .next t ∧ exec .popAF t = .next u) ∧
    Writable (sample.sp - 1) ∧ Writable (sample.sp - 2) :=
  ⟨witness_sample_meets_the_invariant, rfl, rfl, ⟨_, _, rfl, rfl⟩, by decide, by decide⟩
theorem witness_CallThenReturns :
    sample.Inv ∧ Writable (sample.sp - 1) ∧ Writable (sample.sp - 2) ∧
    ∃ t u, exec (.call_a16 0x0150) sample = .next t ∧ exec .ret t = .next u :=
  ⟨witness_sample_meets_the_invariant, by decide, by decide, _, _, rfl, rfl⟩
theorem witness_SystemInstructions :
    (0x01 : Byte) ≠ 0x00 ∧ (0xFF : Byte) ≠ 0x00 ∧ State.halted { sample with halted := true } = true := by decide
theorem witness_DecimalArithmetic :
    bcdValid sample.a = true ∧ bcdValid sample.b = true ∧
    (∃ t u, exec .addA_B sample = .next t ∧ exec .daa t = .next u) ∧
    (∃ t u, exec .subB sample = .next t ∧ exec .daa t = .next u) ∧ bcdValid 0x99 = true ∧ bcdValid 0x9A = false :=
  ⟨by decide, by decide, ⟨_, _, rfl, rfl⟩, ⟨_, _, rfl, rfl⟩, by decide, by decide⟩

/-- The first and the last address of each range a clause names; no address is in two ranges. -/
theorem witness_SwitchableRomWindow :
    0x4000 ≤ (0x4000 : Word).toNat ∧ (0x4000 : Word).toNat ≤ 0x7FFF ∧ 0x4000 ≤ (0x7FFF : Word).toNat ∧
    (0x7FFF : Word).toNat ≤ 0x7FFF := by decide
theorem witness_FixedRomAndExternalRam :
    (0x0000 : Word).toNat ≤ 0x3FFF ∧ (0x3FFF : Word).toNat ≤ 0x3FFF ∧
    0xA000 ≤ (0xA000 : Word).toNat ∧ (0xA000 : Word).toNat ≤ 0xBFFF ∧
    0xA000 ≤ (0xBFFF : Word).toNat ∧ (0xBFFF : Word).toNat ≤ 0xBFFF := by decide
theorem witness_MirrorStores :
    sample.Inv ∧ 0xC000 ≤ (0xC000 : Word).toNat ∧ (0xC000 : Word).toNat ≤ 0xDFFF ∧
    0xC000 ≤ (0xDFFF : Word).toNat ∧ (0xDFFF : Word).toNat ≤ 0xDFFF ∧
    0xE000 ≤ (0xE000 : Word).toNat ∧ (0xE000 : Word).toNat ≤ 0xFDFF ∧
    0xE000 ≤ (0xFDFF : Word).toNat ∧ (0xFDFF : Word).toNat ≤ 0xFDFF ∧
    (0xC001 : Word) ≠ 0xC000 ∧ (0xC001 : Word) ≠ 0xC000 + 0x2000 ∧ (0xDDFE : Word) ≠ 0xFDFF ∧
    (0xDDFE : Word) ≠ 0xFDFF - 0x2000 :=
  ⟨witness_sample_meets_the_invariant, by decide⟩
theorem witness_PlainStorage :
    sample.Inv ∧ 0x8000 ≤ (0x8000 : Word).toNat ∧ (0x9FFF : Word).toNat ≤ 0x9FFF ∧ 0xFE00 ≤ (0xFE00 : Word).toNat ∧
    (0xFE9F : Word).toNat ≤ 0xFE9F ∧ 0xFF00 ≤ (0xFF00 : Word).toNat ∧ 0xFF00 ≤ (0xFFFF : Word).toNat ∧
    (0x8001 : Word) ≠ 0x8000 :=
  ⟨witness_sample_meets_the_invariant, by decide⟩
theorem witness_ProtectedRange :
    sample.Inv ∧ 0xFEA0 ≤ (0xFEA0 : Word).toNat ∧ (0xFEA0 : Word).toNat ≤ 0xFEFF ∧ 0xFEA0 ≤ (0xFEFF : Word).toNat ∧
    (0xFEFF : Word).toNat ≤ 0xFEFF :=
  ⟨witness_sample_meets_the_invariant, by decide⟩
theorem witness_StoreSeenByNextFetch :
    sample.Inv ∧ Writable (sample.pc + 3) ∧ ∃ t, exec (.ldMa16_A (sample.pc + 3)) sample = .next t :=
  ⟨witness_sample_meets_the_invariant, by decide, _, rfl⟩
theorem witness_MemoryIsPresentedWrites :
    ∃ t, exec .pushAF sample = .next t ∧ presentedWrites .pushAF sample = [(0x8001, 0x15), (0x8000, 0x80)] :=
  ⟨_, rfl, by decide⟩
theorem witness_MemoryFrame :
    (∃ t, exec .ldMHL_A sample = .next t) ∧
    (∀ w ∈ presentedWrites .ldMHL_A sample, (0xC101 : Word) ∉ writeTargets w.1) ∧
    (∀ w ∈ presentedWrites .cpA sample, (0xC100 : Word) ∉ writeTargets w.1) :=
  ⟨⟨_, rfl⟩, fun w mem => by
    rw [show presentedWrites .ldMHL_A sample = [(0xC100, 0x15)] from rfl, List.mem_singleton] at mem
    rw [mem]; decide, fun _ mem => absurd mem List.not_mem_nil⟩
theorem witness_RegisterFrame :
    (∃ t, exec .addA_B sample = .next t) ∧ writesReg8 (runForm .addA_B sample) .b = false ∧
    writesSP (runForm .addA_B sample) = false ∧ writesReg8 (runForm .addA_B sample) .a = true := ⟨⟨_, rfl⟩, rfl, rfl, rfl⟩
theorem witness_FlagTable : (∃ t, exec .incMHL sample = .next t) ∧
    flagRow (runForm .incMHL sample) = ⟨.computed, .zero, .computed, .keep⟩ := ⟨⟨_, rfl⟩, rfl⟩
theorem witness_ControlStateFrame :
    (∃ t, exec .ei sample = .next t) ∧ (∃ t, exec .halt sample = .next t) ∧ ∃ t, exec .nop sample = .next t :=
  ⟨⟨_, rfl⟩, ⟨_, rfl⟩, ⟨_, rfl⟩⟩
theorem witness_PCAdvances :
    (∃ t, exec (.jrNZ_e8 0x05) sample = .next t) ∧ assignsPC (runForm (.jrNZ_e8 0x05) sample) sample = false ∧
    (∃ t, exec (.ldBC_d16 0x1234) sample = .next t) ∧ assignsPC (runForm (.ldBC_d16 0x1234) sample) sample = false :=
  ⟨⟨_, rfl⟩, rfl, ⟨_, rfl⟩, rfl⟩
theorem witness_FlagsInfluenceOnlyReaders :
    readsFlags (Instr.form .addA_B) = false ∧ readsFlags (Instr.form .incHL) = false ∧
    readsFlags (Instr.form .adcA_B) = true := by decide
theorem witness_StepKeepsInvariant : sample.Inv ∧ ∃ t, step sample = .next t :=
  ⟨witness_sample_meets_the_invariant, _, rfl⟩
theorem witness_ReachableStatesMeetInvariant :
    (∃ s, hostReset resetCall = .ok s) ∧ sample.Inv ∧ Transition sample (wake sample) ∧
    (∃ t, Transition sample t ∧ step sample = .next t) ∧ Transition sample (forcePC 0x0150 sample) ∧
    Transition sample { sample with romb := 0 } ∧ Transition sample { sample with ramb := 0 } ∧
    Reachable (wake (forcePC 0x0150 resetCall.start)) :=
  ⟨⟨_, resetCall_succeeds⟩, witness_sample_meets_the_invariant, .wake, ⟨_, .step _ rfl, rfl⟩, .forcePC 0x0150,
   .romBank 0 _ rfl, .ramBank 0 _ rfl,
   .next _ _ (.next _ _ (.reset resetCall _ resetCall_succeeds) (.forcePC 0x0150)) .wake⟩
theorem witness_ResetOperation :
    2 ≤ resetCall.romBanks ∧ resetCall.image.length = resetCall.romBanks * 0x4000 ∧ resetCall.inDomain = true ∧
    hostReset { resetCall with image := [] } = .error .malformedImage ∧
    hostReset { resetCall with romBanks := 1 } = .error .malformedImage ∧
    ResetParams.imageValid { resetCall with ramBanks := 0 } = true ∧
    ResetParams.inDomain { resetCall with ramBanks := 0 } = false ∧ 0x7FFF < 2 * 0x4000 :=
  ⟨by decide, by rw [show resetCall.image = List.replicate (2 * 0x4000) 0x76 from rfl, List.length_replicate]; rfl, rfl,
   rfl, rfl, resetCall_valid, rfl, by decide⟩
theorem witness_HostOperations :
    1 < sample.romBanks ∧ sample.romBanks ≤ 2 ∧ 0 < sample.ramBanks ∧ sample.ramBanks ≤ 1 ∧ sample.halted = false := by
  decide

end Sys2Proof.Tests
end

section
/-! The family 20_memory.md: the mirror stores of work RAM and echo (R65, R66, R70) and the plain cells of GM (R63,
R67). -/

namespace Sys2Proof.Machine

/-! ### The targets of a write in the ranges of GM (R70), and the addresses of the mirrors -/

theorem writeTargets_work (addr : Word) (lo : 0xC000 ≤ addr.toNat) (hi : addr.toNat ≤ 0xDFFF) :
    writeTargets addr = [addr, addr + 0x2000] := by
  unfold writeTargets; dsimp only
  rw [if_neg (by omega), if_neg (by omega), if_pos hi]

theorem writeTargets_echo (addr : Word) (lo : 0xE000 ≤ addr.toNat) (hi : addr.toNat ≤ 0xFDFF) :
    writeTargets addr = [addr, addr - 0x2000] := by
  unfold writeTargets; dsimp only
  rw [if_neg (by omega), if_neg (by omega), if_neg (by omega), if_pos hi]

theorem writeTargets_plain (addr : Word)
    (h : (0x8000 ≤ addr.toNat ∧ addr.toNat ≤ 0x9FFF) ∨ (0xFE00 ≤ addr.toNat ∧ addr.toNat ≤ 0xFE9F) ∨
      0xFF00 ≤ addr.toNat) : writeTargets addr = [addr] := by
  unfold writeTargets; dsimp only
  rcases h with ⟨lo, hi⟩ | high
  · rw [if_neg (by omega), if_pos (by omega)]
  · rw [if_neg (by omega), if_neg (by omega), if_neg (by omega), if_neg (by omega), if_neg (by omega)]

theorem toNat_workMirror (addr : Word) (hi : addr.toNat ≤ 0xDFFF) : (addr + 0x2000).toNat = addr.toNat + 0x2000 :=
  BitVec.toNat_add_of_lt (show addr.toNat + 0x2000 < 65536 by omega)

theorem toNat_echoMirror (addr : Word) (lo : 0xE000 ≤ addr.toNat) : (addr - 0x2000).toNat = addr.toNat - 0x2000 :=
  BitVec.toNat_sub_of_le (BitVec.le_def.mpr (show 0x2000 ≤ addr.toNat by omega))

/-! ### What is read back -/

/-- The last store into GM is what its own address reads, when that address is routed to GM (R68). -/
theorem State.readByte_gm_lastWrite (s : State) (m : Memory) (q : Word) (v : Byte) (wf : m.wf = true)
    (gm : 0xC000 ≤ q.toNat) : ({ s with gm := m.write q.toNat v } : State).readByte q = v := by
  rw [State.readByte_gm _ _ (by omega) (by omega)]
  exact Memory.read_write_same m 0 _ _ wf

/-- A work-RAM write is read back at its mirror, also where the mirror is outside the echo range: the store is raw
(R65, R70). -/
theorem State.readByte_writeByte_workMirror (s : State) (addr : Word) (v : Byte) (wf : s.memWf)
    (lo : 0xC000 ≤ addr.toNat) (hi : addr.toNat ≤ 0xDFFF) :
    (s.writeByte addr v).readByte (addr + 0x2000) = v := by
  obtain ⟨-, -, wfg⟩ := wf
  have mirror := toNat_workMirror addr hi
  rw [State.writeByte_work _ _ _ lo hi, ← mirror]
  exact State.readByte_gm_lastWrite s _ _ v (Memory.wf_write _ _ _ wfg) (by omega)

/-- An echo write is read back at its mirror in work RAM (R66). -/
theorem State.readByte_writeByte_echoMirror (s : State) (addr : Word) (v : Byte) (wf : s.memWf)
    (lo : 0xE000 ≤ addr.toNat) (hi : addr.toNat ≤ 0xFDFF) :
    (s.writeByte addr v).readByte (addr - 0x2000) = v := by
  obtain ⟨-, -, wfg⟩ := wf
  have mirror := toNat_echoMirror addr lo
  rw [State.writeByte_echo _ _ _ lo hi, ← mirror]
  exact State.readByte_gm_lastWrite s _ _ v (Memory.wf_write _ _ _ wfg) (by omega)

/-! ### The obligations -/

/-- Settles O42: the router's rows give the read and the stored cells, and the frame is that `q` is neither of the two
targets. -/
theorem mirrorStores : Obligations.MirrorStores := by
  intro s addr q v inv
  refine ⟨fun lo hi => ⟨?read, ?write, ?same, ?mirror, fun ne neMirror => ?frame⟩,
    fun lo hi => ⟨?readEcho, ?writeEcho, ?sameEcho, ?mirrorEcho, fun ne neMirror => ?frameEcho⟩⟩
  case read | readEcho => exact State.readByte_gm s addr (by omega) (by omega)
  case same | sameEcho => exact State.readByte_writeByte_same s addr v inv.memWf (by omega) (by omega)
  case write => exact State.writeByte_work s addr v lo hi
  case mirror => exact State.readByte_writeByte_workMirror s addr v inv.memWf lo hi
  case frame =>
    refine State.readByte_writeByte_other s addr q v ?_
    simpa [writeTargets_work addr lo hi] using And.intro ne neMirror
  case writeEcho => exact State.writeByte_echo s addr v lo hi
  case mirrorEcho => exact State.readByte_writeByte_echoMirror s addr v inv.memWf lo hi
  case frameEcho =>
    refine State.readByte_writeByte_other s addr q v ?_
    simpa [writeTargets_echo addr lo hi] using And.intro ne neMirror

/-- Settles O43: no address of the three ranges is in the XRAM window, has a mirror, or is protected, so its own cell is
the write's one target. -/
theorem plainStorage : Obligations.PlainStorage := by
  intro s addr q v inv plain
  refine ⟨?read, State.writeByte_plain s addr v plain, ?same, fun ne => ?frame⟩
  case read => exact State.readByte_gm s addr (by omega) (by omega)
  case same => exact State.readByte_writeByte_same s addr v inv.memWf (by omega) (by omega)
  case frame =>
    refine State.readByte_writeByte_other s addr q v ?_
    simp [writeTargets_plain addr plain, ne]

end Sys2Proof.Machine
end

section
/-! The family 47_stack.md: the two stack primitives (R353, R354). -/

namespace Sys2Proof.Machine

/-- The number `pop16()` answers (R354): the byte at SP+1 is its high byte, the byte at SP its low byte. -/
theorem State.stackTop_toNat (s : State) :
    s.stackTop.toNat = (s.readByte (s.sp + 1)).toNat * 256 + (s.readByte s.sp).toNat :=
  word16_toNat (s.readByte (s.sp + 1)) (s.readByte s.sp)

/-- Settles O60: the push and the SP of the pop are what `push16` and `dropTop` are defined to be, and the word popped is
the two bytes in the order of `stackTop_toNat`. -/
theorem stackPrimitives : Obligations.StackPrimitives := by
  intro s w
  refine ⟨?push, ?popWord, ?popState⟩
  case push => rfl
  case popWord => exact s.stackTop_toNat
  case popState => rfl

end Sys2Proof.Machine
end

section
/-! The encoding (30_encoding.md): the decoder's maps against the encoder and against the maps by fields. -/

namespace Sys2Proof

/-! ### The three bytes of the decoder, opcode by opcode -/

/-- A byte is its three fields (R102), so what holds for all values of x, y and z holds of every opcode. -/
theorem opcode_cases {P : Byte → Prop} (byFields : ∀ (x : Fin 4) (y z : Fin 8), P (BitVec.ofNat 8 (64 * x + 8 * y + z)))
    (op : Byte) : P op := by
  have fields : op = BitVec.ofNat 8 (64 * fieldX op + 8 * fieldY op + fieldZ op) := by
    have lt := op.isLt
    apply BitVec.eq_of_toNat_eq
    simp only [fieldX, fieldY, fieldZ, BitVec.toNat_ofNat]
    omega
  rw [fields]
  exact byFields _ _ _

/-- A property of the values of a 2-bit and of a 3-bit field, value by value. -/
theorem field4_cases {P : Fin 4 → Prop} (at0 : P 0) (at1 : P 1) (at2 : P 2) (at3 : P 3) : ∀ x, P x
  | 0 => at0 | 1 => at1 | 2 => at2 | 3 => at3

@[inherit_doc field4_cases] theorem field8_cases {P : Fin 8 → Prop} (at0 : P 0) (at1 : P 1) (at2 : P 2) (at3 : P 3)
    (at4 : P 4) (at5 : P 5) (at6 : P 6) (at7 : P 7) : ∀ x, P x
  | 0 => at0 | 1 => at1 | 2 => at2 | 3 => at3 | 4 => at4 | 5 => at5 | 6 => at6 | 7 => at7

theorem extInstr_encode (op2 : Byte) : (extInstr op2).encode = [0xCB, op2] := by
  induction op2 using opcode_cases with | byFields x y z =>
  induction x using field4_cases <;> induction y using field8_cases <;> induction z using field8_cases <;> rfl

theorem extInstr_form (op2 : Byte) : (extInstr op2).form = extForm op2 := by
  induction op2 using opcode_cases with | byFields x y z =>
  induction x using field4_cases <;> induction y using field8_cases <;> induction z using field8_cases <;> rfl

/-- An immediate word is encoded as the two bytes it was read from (R109). -/
theorem encode_immediateWord (op b1 b2 : Byte) : [op, loByte (word16 b2 b1), hiByte (word16 b2 b1)] = [op, b1, b2] := by
  rw [loByte_word16, hiByte_word16]

/-- What the decoder answers for three bytes is encoded by as many of them as R101 gives byte 0. -/
theorem decode3_encode (b0 b1 b2 : Byte) : (decode3 b0 b1 b2).encode = [b0, b1, b2].take (opLength b0) := by
  induction b0 using opcode_cases with | byFields x y z =>
  induction x using field4_cases <;> induction y using field8_cases <;> induction z using field8_cases <;>
    first | rfl | exact encode_immediateWord _ b1 b2 | exact extInstr_encode b1

/-- Settles O3: opcode by opcode, and for 0xCB by the extended map. -/
theorem mapsAgreeWithFields : Obligations.MapsAgreeWithFields := by
  intro b0 b1 b2
  induction b0 using opcode_cases with | byFields x y z =>
  induction x using field4_cases <;> induction y using field8_cases <;> induction z using field8_cases <;>
    first | rfl | exact extInstr_form b1

/-! ### The decoder on a list -/

/-- Every way the decoder answers an instruction: the list begins with the opcode's number of bytes, and the instruction
is what they select. -/
theorem decode_ok {bytes : List Byte} {i : Instr} {rest : List Byte} (ok : decode bytes = .ok (i, rest)) :
    ∃ b0 b1 b2, i = decode3 b0 b1 b2 ∧ bytes = [b0, b1, b2].take (opLength b0) ++ rest := by
  match bytes with
  | [] => exact absurd ok (by simp [decode_nil])
  | b0 :: tail =>
    rcases opLength_cases b0 with len | len | len
    · rw [decode_one b0 tail len] at ok
      cases ok
      exact ⟨b0, 0, 0, rfl, by rw [len]; rfl⟩
    · match tail with
      | [] => exact absurd ok (by simp [decode_truncated_two b0 len])
      | b1 :: tail =>
        rw [decode_two b0 b1 tail len] at ok
        cases ok
        exact ⟨b0, b1, 0, rfl, by rw [len]; rfl⟩
    · match tail with
      | [] => exact absurd ok (by simp [decode_truncated_three b0 len])
      | [b1] => exact absurd ok (by simp [decode_truncated_three' b0 b1 len])
      | b1 :: b2 :: tail =>
        rw [decode_three b0 b1 b2 tail len] at ok
        cases ok
        exact ⟨b0, b1, b2, rfl, by rw [len]; rfl⟩

/-- Settles O1: row by row the opcode selects the instruction, and an immediate word is put together from its halves. -/
theorem decodeEncodeRoundTrip : Obligations.DecodeEncodeRoundTrip := by
  intro i rest row
  cases i
  case prefixCB => exact absurd rfl row
  case ldBC_d16 w | ldMa16_SP w | ldDE_d16 w | ldHL_d16 w | ldSP_d16 w | jpNZ_a16 w | jp_a16 w | callNZ_a16 w
    | jpZ_a16 w | callZ_a16 w | call_a16 w | jpNC_a16 w | callNC_a16 w | jpC_a16 w | callC_a16 w | ldMa16_A w | ldA_Ma16 w =>
    conv => rhs; rw [← word16_hiByte_loByte w]
    rfl
  all_goals rfl

/-- Settles O2: the bytes consumed are those that selected the instruction, and they are its encoding. -/
theorem encodeDecodeRoundTrip : Obligations.EncodeDecodeRoundTrip := by
  intro bytes i rest ok
  obtain ⟨b0, b1, b2, rfl, rfl⟩ := decode_ok ok
  rw [decode3_encode]

/-- Settles O4: by the opcode's length and by how many bytes follow. -/
theorem decodeConsumesLength : Obligations.DecodeConsumesLength := by
  intro b0 rest
  refine ⟨fun enough => ?whole, fun short => ?truncated, decode_nil⟩
  case whole =>
    rcases opLength_cases b0 with len | len | len <;> rw [len] at enough ⊢
    · exact ⟨_, rest, decode_one b0 rest len, by omega⟩
    · match rest with
      | b1 :: left => exact ⟨_, left, decode_two b0 b1 left len, by simp only [List.length_cons]; omega⟩
    · match rest with
      | b1 :: b2 :: left => exact ⟨_, left, decode_three b0 b1 b2 left len, by simp only [List.length_cons]; omega⟩
  case truncated =>
    rcases opLength_cases b0 with len | len | len <;> rw [len] at short
    · omega
    · match rest with
      | [] => exact decode_truncated_two b0 len
    · match rest with
      | [] => exact decode_truncated_three b0 len
      | [b1] => exact decode_truncated_three' b0 b1 len

/-- Settles O5: each word evaluates. -/
theorem sampleWordsDecode : Obligations.SampleWordsDecode :=
  ⟨rfl, rfl, rfl, rfl, rfl, rfl, rfl, rfl, rfl, rfl⟩

end Sys2Proof
end

section
/-! What a step does, said once (30_encoding.md R110): the effect of each form and where it leaves PC. The rules of the
instructions and the facts about all of them are read off these two functions. -/

namespace Sys2Proof.Machine

open Sys2Proof.Claims

/-- The state after a form's own effect, in which PC is still pc0 (R110). -/
def formEffect (g : Form) (s : State) : State :=
  match g with
  | .nop | .stop _ | .illegal _ | .prefixCB | .jp _ | .jpCc _ _ | .jpHL | .jr _ | .jrCc _ _ => s
  | .halt => { s with halted := true }
  | .di => { s with ime := false }
  | .ei => { s with ime := true }
  | .scf => s.flags none (some false) (some false) (some true)
  | .ccf => s.flags none (some false) (some false) (some !s.fC)
  | .cpl => ({ s with a := ~~~s.a } : State).flags none (some true) (some true) none
  | .daa =>
    let r := daaCompute s.a s.fN s.fH s.fC
    ({ s with a := r.val } : State).flags (some (r.val == 0)) none (some false) (some r.c)
  | .rlca => rotatedA .rlc s
  | .rrca => rotatedA .rrc s
  | .rla => rotatedA .rl s
  | .rra => rotatedA .rr s
  | .ldRR dst src => s.setReg8 dst (s.getReg8 src)
  | .ldRN dst n => s.setReg8 dst n
  | .ldRM dst => s.setReg8 dst (s.readByte s.hl)
  | .ldMR src => s.writeByte s.hl (s.getReg8 src)
  | .ldMN n => s.writeByte s.hl n
  | .ldAFrom m => ({ s with a := s.readByte (s.ptrAddr m) } : State).ptrAfter m
  | .ldATo m => (s.writeByte (s.ptrAddr m) s.a).ptrAfter m
  | .ldhTo a8 => s.writeByte (highPage a8) s.a
  | .ldhFrom a8 => { s with a := s.readByte (highPage a8) }
  | .ldCTo => s.writeByte (highPage s.c) s.a
  | .ldCFrom => { s with a := s.readByte (highPage s.c) }
  | .ldAbsTo a16 => s.writeByte a16 s.a
  | .ldAbsFrom a16 => { s with a := s.readByte a16 }
  | .ldPair p d16 => s.setReg16 p d16
  | .ldAbsSP a16 => s.writeWord a16 s.sp
  | .ldSPHL => { s with sp := s.hl }
  | .ldHLSP e8 =>
    let r := spOffset8 s.sp e8
    (s.setHL r.val).flags (some false) (some false) (some r.h) (some r.c)
  | .alu o x =>
    let r := aluCompute o s.a (s.getSrc x) s.fC
    ({ s with a := if o = .cp then s.a else r.val } : State).flags (some r.z) (some r.n) (some r.h) (some r.c)
  | .addHL p =>
    let r := addWords s.hl (s.getReg16 p)
    (s.setHL r.val).flags none (some false) (some r.h) (some r.c)
  | .addSP e8 =>
    let r := addWords s.sp (sext16 e8)
    ({ s with sp := r.val } : State).flags (some false) (some false) (some r.h) (some r.c)
  | .incPair p => s.setReg16 p (s.getReg16 p + 1)
  | .decPair p => s.setReg16 p (s.getReg16 p - 1)
  | .inc8 x =>
    let w := s.getLoc x + 1
    (s.setLoc x w).flags (some (w == 0)) (some false) (some (decide (lowNibble (s.getLoc x) = 0x0F))) none
  | .dec8 x =>
    let w := s.getLoc x - 1
    (s.setLoc x w).flags (some (w == 0)) (some true) (some (decide (lowNibble (s.getLoc x) = 0x00))) none
  | .rot o x =>
    let r := rotCompute o (s.getLoc x) s.fC
    (s.setLoc x r.val).flags (some (r.val == 0)) (some false) (some false) (some r.c)
  | .bit b x => s.flags (some (!(s.getLoc x).getLsbD b.val)) (some false) (some true) none
  | .set b x => s.setLoc x (s.getLoc x ||| bitMask b)
  | .res b x => s.setLoc x (s.getLoc x &&& ~~~(bitMask b))
  | .call _ => s.push16 (s.pcNext 3)
  | .callCc cc _ => if s.cond cc then s.push16 (s.pcNext 3) else s
  | .ret => s.dropTop
  | .retCc cc => if s.cond cc then s.dropTop else s
  | .reti => ({ s with ime := true } : State).dropTop
  | .rst _ => s.push16 (s.pcNext 1)
  | .push p => s.push16 (s.getStk p)
  | .pop p => s.dropTop.setStk p s.stackTop
where
  /-- A one-byte rotate of the accumulator (R260 to R263). -/
  rotatedA (o : RotOp) (s : State) : State :=
    let r := rotCompute o s.a s.fC
    ({ s with a := r.val } : State).flags (some false) (some false) (some false) (some r.c)

/-- PC after a form: what it assigns, or else `pcnext` (R110). -/
def formPC (g : Form) (s : State) : Word :=
  match g with
  | .jp a16 | .call a16 => a16
  | .jpCc cc a16 | .callCc cc a16 => if s.cond cc then a16 else s.pcNext 3
  | .jpHL => s.hl
  | .jr e8 => s.relTarget e8
  | .jrCc cc e8 => if s.cond cc then s.relTarget e8 else s.pcNext 2
  | .ret | .reti => s.stackTop
  | .retCc cc => if s.cond cc then s.stackTop else s.pcNext 1
  | .rst y => BitVec.ofNat 16 (8 * y.val)
  | g => s.pcNext (formBytes g).length

/-- The state after a form. -/
def formNext (g : Form) (s : State) : State := { formEffect g s with pc := formPC g s }

/-- An effect that leaves PC at pc0 ends at the address after the instruction (R110). -/
theorem retire_eq {s t : State} (len : Nat) (pc0 : t.pc = s.pc) :
    retire len t = .next { t with pc := s.pcNext len } := by
  unfold retire State.pcNext
  rw [pc0]

@[simp] theorem formBytes_alu_length (o : AluOp) (x : Src8) : (formBytes (.alu o x)).length = srcLength x := by
  cases o <;> cases x <;> rfl

@[simp] theorem formBytes_rot_length (o : RotOp) (x : Loc8) : (formBytes (.rot o x)).length = 2 := by
  cases o <;> rfl

/-- No effect moves PC: that is left to the end of the step. -/
theorem formEffect_pc (g : Form) (s : State) : (formEffect g s).pc = s.pc := by
  cases g
  case callCc cc a16 => simp only [formEffect]; split <;> simp
  case retCc cc => simp only [formEffect]; split <;> rfl
  all_goals simp [formEffect, formEffect.rotatedA]

/-- CP is the one 8-bit operation that leaves A (R208). -/
theorem alu_eq (o : AluOp) (x : Src8) (s : State) : alu o x s = retire (srcLength x) (formEffect (.alu o x) s) := by
  cases o <;> rfl

/-- Every form of the map answers its effect with its PC. -/
theorem execForm_wellFormed (g : Form) (s : State) (wf : g.wellFormed = true) :
    execForm g s = .next (formNext g s) := by
  have pc0 := formEffect_pc g s
  cases g
  case illegal | prefixCB => exact Bool.noConfusion wf
  case stop pad =>
    have zero : pad = 0x00 := by simpa [Form.wellFormed] using wf
    exact if_pos zero
  case jp | jpHL | jr | call | ret | reti | rst => rfl
  case jpCc cc a16 =>
    show (if s.cond cc then jumpTo a16 s else retire 3 s) =
      .next { s with pc := if s.cond cc then a16 else s.pcNext 3 }
    cases s.cond cc <;> rfl
  case jrCc cc e8 =>
    show (if s.cond cc then jumpTo (s.relTarget e8) s else retire 2 s) =
      .next { s with pc := if s.cond cc then s.relTarget e8 else s.pcNext 2 }
    cases s.cond cc <;> rfl
  case callCc cc a16 =>
    show (if s.cond cc then callTo 3 a16 s else retire 3 s) =
      .next { (if s.cond cc then s.push16 (s.pcNext 3) else s) with pc := if s.cond cc then a16 else s.pcNext 3 }
    cases s.cond cc <;> rfl
  case retCc cc =>
    show (if s.cond cc then returnTo s else retire 1 s) =
      .next { (if s.cond cc then s.dropTop else s) with pc := if s.cond cc then s.stackTop else s.pcNext 1 }
    cases s.cond cc <;> rfl
  case alu o x =>
    have len : formPC (.alu o x) s = s.pcNext (srcLength x) := congrArg s.pcNext (formBytes_alu_length o x)
    unfold formNext
    rw [len]
    exact (alu_eq o x s).trans (retire_eq _ pc0)
  case rot o x =>
    have len : formPC (.rot o x) s = s.pcNext 2 := congrArg s.pcNext (formBytes_rot_length o x)
    unfold formNext
    rw [len]
    exact retire_eq _ pc0
  all_goals exact retire_eq _ pc0
/-- A form outside the map raises the Unimplemented signal, with the same opcode from every state (R118, R363, R370). -/
theorem execForm_illFormed (g : Form) (illFormed : g.wellFormed = false) (row : g ≠ .prefixCB) :
    ∃ op, ∀ s, execForm g s = raiseUnimplemented op s := by
  cases g
  case illegal op => exact ⟨op, fun _ => rfl⟩
  case stop pad =>
    have wrong : pad ≠ 0x00 := by simpa [Form.wellFormed] using illFormed
    exact ⟨0x10, fun _ => if_neg wrong⟩
  case prefixCB => exact absurd rfl row
  all_goals exact Bool.noConfusion illFormed

/-- The converse: a form that answers a next state answers its effect with its PC. -/
theorem execForm_next {g : Form} {s t : State} (row : g ≠ .prefixCB) (ran : execForm g s = .next t) :
    t = formNext g s := by
  cases wf : g.wellFormed with
  | true =>
    rw [execForm_wellFormed g s wf] at ran
    exact (Host.Outcome.next.inj ran).symm
  | false =>
    obtain ⟨op, signals⟩ := execForm_illFormed g wf row
    rw [signals] at ran
    cases ran

/-- The next state of any instruction, by the form that runs. -/
theorem exec_next {i : Instr} {s t : State} (ran : exec i s = .next t) : t = formNext (runForm i s) s :=
  execForm_next (runForm_ne_prefix i s) ((exec_eq_runForm i s).symm.trans ran)

/-- The rule of a well-formed row: its form's next state, encoding line and cycle class. -/
theorem retires_of_formNext {i : Instr} {g : Form} {s t : State} {bytes : List Byte} {cycles : Nat} (form : i.form = g)
    (wf : g.wellFormed = true) (next : formNext g s = t) (encoding : formBytes g = bytes)
    (count : formCount g s = cycles) : Retires i s t bytes cycles := by
  have row : g ≠ .prefixCB := fun eq => by rw [eq] at wf; exact Bool.noConfusion wf
  exact retires_of_form form row ((execForm_wellFormed g s wf).trans (congrArg _ next)) encoding count

end Sys2Proof.Machine
end

section
/-! The invariant (10_state.md R25, R30, R31, R34 to R36): RESET establishes it, and every step and every host operation
keeps it. -/

namespace Sys2Proof.Machine

/-- The effect of every form keeps the invariant: it is made of register writes, flag writes, writes put through the
router, the two stack primitives, and IME and HALTED, which the invariant does not speak of. -/
theorem State.Inv.formEffect {s : State} (inv : s.Inv) (g : Form) : (formEffect g s).Inv := by
  cases g
  case nop | stop | illegal | prefixCB | jp | jpCc | jpHL | jr | jrCc => exact inv
  case halt | di | ei => exact inv.congr _ inv.flagsLow rfl rfl rfl rfl rfl rfl rfl
  case scf | ccf | bit => exact inv.flags _ _ _ _
  case alu | cpl | daa | rlca | rrca | rla | rra => exact (inv.setReg8 .a _).flags _ _ _ _
  case ldRR | ldRN | ldRM => exact inv.setReg8 _ _
  case ldhFrom | ldCFrom | ldAbsFrom => exact inv.setReg8 .a _
  case ldMR | ldMN | ldhTo | ldCTo | ldAbsTo => exact inv.writeByte _ _
  case ldAbsSP => exact (inv.writeByte _ _).writeByte _ _
  case ldAFrom m => exact (inv.setReg8 .a _).ptrAfter m
  case ldATo m => exact (inv.writeByte _ _).ptrAfter m
  case ldPair | incPair | decPair => exact inv.setReg16 _ _
  case ldSPHL => exact inv.setReg16 .sp _
  case ldHLSP | addHL => exact (inv.setReg16 .hl _).flags _ _ _ _
  case addSP => exact (inv.setReg16 .sp _).flags _ _ _ _
  case inc8 | dec8 | rot => exact (inv.setLoc _ _).flags _ _ _ _
  case set | res => exact inv.setLoc _ _
  case call | rst | push => exact inv.push16 _
  case callCc cc _ =>
    show (if s.cond cc then _ else s).Inv
    split
    · exact inv.push16 _
    · exact inv
  case ret => exact inv.dropTop
  case retCc cc =>
    show (if s.cond cc then _ else s).Inv
    split
    · exact inv.dropTop
    · exact inv
  case reti => exact inv.dropTop.congr _ inv.flagsLow rfl rfl rfl rfl rfl rfl rfl
  case pop => exact inv.dropTop.setStk _ _

theorem State.Inv.exec {s t : State} (inv : s.Inv) {i : Instr} (ran : exec i s = .next t) : t.Inv := by
  rw [exec_next ran]
  exact (inv.formEffect _).setPC _

/-- Settles O56: an Idle step changes nothing, and any other step is some instruction's. -/
theorem stepKeepsInvariant : Obligations.StepKeepsInvariant := by
  intro s t inv ran
  rcases step_cases s with ⟨-, idle⟩ | ⟨-, running⟩
  · rw [idle] at ran
    cases ran
    exact inv
  · rw [running] at ran
    exact inv.exec ran

/-! ### RESET and the host operations -/

/-- The state RESET leaves meets the invariant when its arguments are in their domains (R440, R441). -/
theorem ResetParams.start_inv (p : ResetParams) (valid : p.imageValid = true) (domain : p.inDomain = true) :
    p.start.Inv := by
  obtain ⟨banks, size⟩ := p.imageValid_iff.mp valid
  simp only [ResetParams.inDomain, Bool.and_eq_true, decide_eq_true_eq] at domain
  obtain ⟨⟨⟨ramBanks, io⟩, gmInit⟩, xramInit⟩ := domain
  exact {
    flagsLow := mask_low _
    rombBound := banks
    rambBound := ramBanks
    romBanksMin := banks
    cartWf := Memory.wfFrom_ofBytes p.image 0
    cartWithin := Memory.within_ofBytes p.image 0 _ (by rw [Nat.zero_add]; exact Nat.le_of_eq size)
    xramWf := Memory.wf_overlay [] _ rfl
    xramWithin := Memory.within_overlay [] _ _ rfl xramInit
    gmWf := Memory.wf_overlay _ _ (Memory.wf_overlay [] _ rfl)
    gmWithin := Memory.within_overlay _ _ _ (Memory.within_overlay [] _ _ rfl gmInit) io }

theorem hostReset_inv {p : ResetParams} {s : State} (ok : hostReset p = .ok s) : s.Inv := by
  rcases hostReset_cases p with ⟨-, refused⟩ | ⟨-, -, refused⟩ | ⟨valid, domain, succeeds⟩
  · rw [refused] at ok; cases ok
  · rw [refused] at ok; cases ok
  · rw [succeeds] at ok
    cases ok
    exact p.start_inv valid domain

/-- Selecting a bank succeeds only on a bank there is (R449). -/
theorem selectRomBank_ok {n : Nat} {s t : State} (ok : selectRomBank n s = .ok t) :
    n < s.romBanks ∧ t = { s with romb := n } := by
  unfold selectRomBank at ok
  split at ok
  · cases ok; exact ⟨by assumption, rfl⟩
  · cases ok

@[inherit_doc selectRomBank_ok] theorem selectRamBank_ok {n : Nat} {s t : State} (ok : selectRamBank n s = .ok t) :
    n < s.ramBanks ∧ t = { s with ramb := n } := by
  unfold selectRamBank at ok
  split at ok
  · cases ok; exact ⟨by assumption, rfl⟩
  · cases ok

theorem State.Inv.transition {s t : State} (inv : s.Inv) (move : Transition s t) : t.Inv := by
  cases move with
  | step _ ran => exact stepKeepsInvariant s t inv ran
  | forcePC addr => exact inv.setPC addr
  | romBank n _ ok =>
    obtain ⟨bank, rfl⟩ := selectRomBank_ok ok
    exact { inv with rombBound := bank }
  | ramBank n _ ok =>
    obtain ⟨bank, rfl⟩ := selectRamBank_ok ok
    exact { inv with rambBound := bank }
  | wake => exact inv.congr _ inv.flagsLow rfl rfl rfl rfl rfl rfl rfl

/-- Settles O57: by induction on how the state is reached. -/
theorem reachableStatesMeetInvariant : Obligations.ReachableStatesMeetInvariant := by
  refine ⟨fun _ _ => hostReset_inv, fun _ _ inv => inv.transition, fun s reached => ?_⟩
  induction reached with
  | reset _ _ ok => exact hostReset_inv ok
  | next _ _ _ move before => exact before.transition move

/-- `State.reset` is what RESET leaves on the model's own parameters (log entries 1 to 3). -/
theorem hostReset_default : hostReset ResetParams.default = .ok State.reset := by
  have valid : ResetParams.default.imageValid = true :=
    (ResetParams.imageValid_iff _).mpr ⟨by decide, List.length_replicate⟩
  have start : ResetParams.default.start = State.reset := by
    have cart := Memory.ofBytes_replicate_unlisted (Config.romBanks * Config.romBankSize) 0
    unfold ResetParams.start
    rw [show ResetParams.default.image = List.replicate _ _ from rfl, cart]
    rfl
  rcases hostReset_cases ResetParams.default with ⟨invalid, -⟩ | ⟨-, outside, -⟩ | ⟨-, -, succeeds⟩
  · rw [valid] at invalid; cases invalid
  · cases outside
  · rw [succeeds, start]

/-- Settles O55: `State.reset` is the state of a successful RESET. -/
theorem resetMeetsInvariant : Obligations.ResetMeetsInvariant := hostReset_inv hostReset_default

/-- Settles O58: the three endings of RESET, and of the state it leaves the fields by definition and the arrays by
what their tables store. -/
theorem resetOperation : Obligations.ResetOperation := by
  refine ⟨hostReset_default, fun p => ⟨?malformed, ?bad, fun banks size domain => ?succeeds⟩⟩
  case malformed =>
    rw [← p.imageValid_iff]
    rcases hostReset_cases p with ⟨valid, ends⟩ | ⟨valid, -, ends⟩ | ⟨valid, -, ends⟩ <;> simp [ends, valid]
  case bad =>
    rcases hostReset_cases p with ⟨valid, ends⟩ | ⟨valid, domain, ends⟩ | ⟨valid, domain, ends⟩ <;> simp [*]
  case succeeds =>
    have valid := p.imageValid_iff.mpr ⟨banks, size⟩
    refine ⟨p.start, ?ok, rfl, rfl, rfl, rfl, rfl, rfl, ?af, ?bc, ?de, ?hl, rfl, rfl, fun k lt => ?cart, p.start_xram,
      p.start_gm⟩
    case ok => simp [hostReset, valid, domain]
    case af =>
      show word16 (hiByte p.af) (loByte p.af &&& 0xF0) = _
      rw [word16_mask_low, word16_hiByte_loByte]
    case bc | de | hl => exact word16_hiByte_loByte _
    case cart =>
      have read := Memory.read_ofBytes p.image 0 k lt
      rwa [Nat.zero_add] at read

/-- Settles O59: each operation is its one assignment, and the step after FORCEPC fetches at the new PC. -/
theorem hostOperations : Obligations.HostOperations := by
  intro s addr n
  refine ⟨rfl, rfl, fun lt => if_pos lt, fun le => if_neg (by omega), fun lt => if_pos lt, fun le => if_neg (by omega),
    fun running => ?step⟩
  unfold step
  rw [show (forcePC addr s).halted = false from running]
  rfl

end Sys2Proof.Machine
end

section
/-! The step (30_encoding.md R110; 60_exceptions.md R400): what it fetches, and the one way it can stop. -/

namespace Sys2Proof

/-- The decoder never answers the row 0xCB alone, whose one byte is shorter than its opcode's length (R371). -/
theorem decode3_ne_prefixCB (b0 b1 b2 : Byte) : decode3 b0 b1 b2 ≠ .prefixCB := by
  intro eq
  have bytes : [0xCB] = [b0, b1, b2].take (opLength b0) := by rw [← decode3_encode, eq]; rfl
  have opcode : 0xCB = b0 := by
    rcases opLength_cases b0 with len | len | len <;> rw [len] at bytes <;> exact (List.cons.inj bytes).1
  subst opcode
  cases (List.cons.inj bytes).2

/-- Three bytes hold a whole instruction, the one they select. -/
theorem decode_threeBytes (b0 b1 b2 : Byte) :
    decode [b0, b1, b2] = .ok (decode3 b0 b1 b2, [b0, b1, b2].drop (opLength b0)) := by
  have roundTrip := decodeEncodeRoundTrip (decode3 b0 b1 b2) ([b0, b1, b2].drop (opLength b0))
    (decode3_ne_prefixCB b0 b1 b2)
  rwa [decode3_encode, List.take_append_drop] at roundTrip

end Sys2Proof

namespace Sys2Proof.Machine

open Sys2Proof.Claims

/-- Settles O6: the three bytes at PC decode to what the step fetches. -/
theorem stepRunsDecodedInstruction : Obligations.StepRunsDecodedInstruction := by
  intro s i rest running ok
  rw [decode_threeBytes] at ok
  cases ok
  simp only [step, running]
  rfl

/-- Settles O10: a well-formed row answers its form's next state. -/
theorem wellFormedAlwaysRetires : Obligations.WellFormedAlwaysRetires := by
  intro i s wf
  exact ⟨formNext i.form s, (exec_eq_form i s).trans (execForm_wellFormed i.form s wf)⟩

/-- All 256 extended forms are instructions of the map (R117). -/
theorem extForm_wellFormed (op2 : Byte) : (extForm op2).wellFormed = true := by
  unfold extForm
  repeat' split
  all_goals rfl

/-- Settles O11: by fields (`extendedPrefix_eq`) and by the printed map (`extInstr_form`) the next byte selects one
form. -/
theorem prefixRowDispatches : Obligations.PrefixRowDispatches := by
  intro s
  have dispatch : exec .prefixCB s = execForm (extForm (s.readByte (s.pc + 1))) s := extendedPrefix_eq s
  refine ⟨?_, _, dispatch.trans (execForm_wellFormed _ s (extForm_wellFormed _))⟩
  rw [dispatch, exec_eq_form, extInstr_form]

/-! ### The Unimplemented signal -/

/-- The forms with a cause signal it, whatever the state (R400, R402). -/
theorem exec_of_cause {i : Instr} {op : Byte} (s : State) (cause : unimplementedCause i = some op) :
    exec i s = .fault (.unimplemented op s.pc) := by
  rw [exec_eq_form]
  unfold unimplementedCause at cause
  split at cause
  next form => cases cause; rw [form]; rfl
  next pad form =>
    split at cause
    · cases cause
    next wrong => cases cause; rw [form]; exact if_neg wrong
  · cases cause

/-- Every other instruction answers a next state. -/
theorem exec_of_no_cause {i : Instr} (s : State) (quiet : unimplementedCause i = none) : ∃ t, exec i s = .next t := by
  rw [exec_eq_form]
  unfold unimplementedCause at quiet
  rcases execForm_ends i.form s with next | ⟨op, form, -⟩ | ⟨pad, form, wrong, -⟩
  · exact next
  · rw [form] at quiet
    cases quiet
  · rw [form] at quiet
    cases (if_neg wrong).symm.trans quiet

/-- Settles O7: by HALTED, and by whether the fetched instruction has a cause. -/
theorem stepEndsInOneReportedWay : Obligations.StepEndsInOneReportedWay := by
  intro s
  unfold stepResult
  rcases step_cases s with ⟨halted, idle⟩ | ⟨running, step⟩
  · simp only [halted, if_true]
    exact ⟨trivial, idle⟩
  · rw [running, step]
    cases cause : unimplementedCause s.fetch with
    | none => exact ⟨rfl, exec_of_no_cause s cause⟩
    | some op => exact ⟨rfl, exec_of_cause s cause⟩

/-- Which three bytes have a cause: the eleven holes, and STOP with a pad byte other than 0x00 (R118, R363). -/
theorem unimplementedCause_decode3 (b0 b1 b2 : Byte) :
    unimplementedCause (decode3 b0 b1 b2) = if b0 ∈ holes ∨ (b0 = 0x10 ∧ b1 ≠ 0x00) then some b0 else none := by
  have ext : unimplementedCause (extInstr b1) = none := by
    have wf := extForm_wellFormed b1
    unfold unimplementedCause
    rw [extInstr_form]
    split
    next form => rw [form] at wf; exact Bool.noConfusion wf
    next form => rw [form] at wf; exact if_pos (by simpa [Form.wellFormed] using wf)
    · rfl
  have stop : unimplementedCause (.stop b1) =
      if (0x10 : Byte) ∈ holes ∨ ((0x10 : Byte) = 0x10 ∧ b1 ≠ 0x00) then some 0x10 else none := by
    show (if b1 = 0x00 then none else some 0x10) = _
    simp [holes]
  induction b0 using opcode_cases with | byFields x y z =>
  induction x using field4_cases <;> induction y using field8_cases <;> induction z using field8_cases <;>
    first | rfl | exact ext | exact stop

/-- Settles O8: a step faults exactly when it runs an instruction with a cause. -/
theorem unimplementedExactlyForHoles : Obligations.UnimplementedExactlyForHoles := by
  intro s op pc
  have cause : unimplementedCause s.fetch = _ := unimplementedCause_decode3 _ _ _
  rcases step_cases s with ⟨halted, idle⟩ | ⟨running, step⟩
  · simp [halted, idle]
  rw [step]
  split at cause
  next hole =>
    rw [exec_of_cause s cause]
    simp only [running, Host.Outcome.fault.injEq, Fault.unimplemented.injEq, true_and]
    constructor
    · rintro ⟨rfl, rfl⟩; exact ⟨rfl, rfl, hole⟩
    · rintro ⟨rfl, rfl, -⟩; exact ⟨rfl, rfl⟩
  next none =>
    obtain ⟨t, next⟩ := exec_of_no_cause s cause
    simp only [next, running, reduceCtorEq, true_and, false_iff]
    rintro ⟨-, rfl, hole⟩
    exact none hole

/-- The rows of the illegal forms are the eleven holes. -/
theorem illegal_form_mem_holes (i : Instr) :
    (match i.form with | .illegal op => decide (op ∈ holes) | _ => true) = true := by cases i <;> rfl

/-- Settles O9: the form's operation raises the signal, and its opcode is its encoding. -/
theorem illegalRowsSignal : Obligations.IllegalRowsSignal := by
  intro i op s form
  refine ⟨?signal, ?encoding, ?hole⟩
  case signal => rw [exec_eq_form, form]; rfl
  case encoding => rw [encode_eq_form, form]; rfl
  case hole =>
    have hole := illegal_form_mem_holes i
    rw [form] at hole
    exact of_decide_eq_true hole

end Sys2Proof.Machine
end

section
/-! The frames (10_state.md, 20_memory.md): what every instruction leaves, by the form that runs. -/

namespace Sys2Proof

/-! ### The encoding as a name of the instruction -/

theorem encode_injective {i j : Instr} (rowI : i ≠ .prefixCB) (rowJ : j ≠ .prefixCB) (bytes : i.encode = j.encode) :
    i = j := by
  have decoded := decodeEncodeRoundTrip i [] rowI
  rw [bytes, decodeEncodeRoundTrip j [] rowJ] at decoded
  exact (congrArg Prod.fst (Except.ok.inj decoded)).symm

/-- The encoder writes as many bytes as R101 gives the opcode. -/
theorem opLength_encode (i : Instr) (row : i ≠ .prefixCB) : opLength (i.encode.headD 0) = i.encode.length := by
  obtain ⟨b0, b1, b2, -, bytes⟩ := decode_ok (decodeEncodeRoundTrip i [] row)
  rw [List.append_nil, List.append_nil] at bytes
  rw [bytes]
  rcases opLength_cases b0 with len | len | len <;> rw [len] <;> exact len

end Sys2Proof

namespace Sys2Proof.Machine

open Sys2Proof.Claims

/-! ### Memory (R69, R70, R78) -/

/-- What a list of byte writes leaves of each element but XRAM and GM. -/
theorem applyWrites_frame (s : State) (ws : List (Word × Byte)) :
    (applyWrites s ws).cart = s.cart ∧ (applyWrites s ws).romb = s.romb ∧ (applyWrites s ws).ramb = s.ramb := by
  induction ws generalizing s with
  | nil => exact ⟨rfl, rfl, rfl⟩
  | cons w ws ih => simpa [applyWrites] using ih (s.writeByte w.1 w.2)

/-- An address that no write of a list targets reads as before. -/
theorem readByte_applyWrites (s : State) (ws : List (Word × Byte)) (q : Word)
    (out : ∀ w ∈ ws, q ∉ writeTargets w.1) : (applyWrites s ws).readByte q = s.readByte q := by
  induction ws generalizing s with
  | nil => rfl
  | cons w ws ih =>
    have tail := ih (s.writeByte w.1 w.2) fun u mem => out u (List.mem_cons_of_mem _ mem)
    exact tail.trans (State.readByte_writeByte_other s w.1 q w.2 (out w List.mem_cons_self))

/-- The arrays after a form's effect are those its presented writes leave. -/
theorem formEffect_memory (g : Form) (s : State) :
    (formEffect g s).cart = s.cart ∧ (formEffect g s).xram = (applyWrites s (formWrites g s)).xram ∧
    (formEffect g s).gm = (applyWrites s (formWrites g s)).gm := by
  cases g
  case inc8 x | dec8 x | set _ x | res _ x =>
    cases x <;> simp [formEffect, formWrites, locWrites, applyWrites, State.setLoc]
  case rot _ x => cases x <;> simp [formEffect, formWrites, locWrites, applyWrites, State.setLoc]
  case callCc cc _ =>
    cases taken : s.cond cc <;> simp [formEffect, formWrites, pushWrites, applyWrites, taken, State.push16]
  case retCc cc => cases taken : s.cond cc <;> simp [formEffect, formWrites, applyWrites, taken]
  all_goals simp [formEffect, formEffect.rotatedA, formWrites, pushWrites, applyWrites, State.push16, State.writeWord]

/-- Settles O47: the next state has the arrays of the effect. -/
theorem memoryIsPresentedWrites : Obligations.MemoryIsPresentedWrites := by
  intro i s t ran
  rw [exec_next ran]
  exact formEffect_memory (runForm i s) s

/-! ### Control state (R28 to R31) -/

/-- Two rows of one form are one row: the form gives the encoding. -/
theorem form_injective {i j : Instr} (rowI : i ≠ .prefixCB) (rowJ : j ≠ .prefixCB) (form : i.form = j.form) : i = j :=
  encode_injective rowI rowJ (by rw [encode_eq_form, encode_eq_form, form])

/-- IME after a form, from IME before it. -/
def formIME : Form → Bool → Bool
  | .ei, _ | .reti, _ => true
  | .di, _ => false
  | _, ime => ime

theorem formEffect_control (g : Form) (s : State) :
    (formEffect g s).ime = formIME g s.ime ∧ (formEffect g s).halted = (s.halted || g == .halt) ∧
    (formEffect g s).romb = s.romb ∧ (formEffect g s).ramb = s.ramb ∧
    (formEffect g s).romBanks = s.romBanks ∧ (formEffect g s).ramBanks = s.ramBanks := by
  cases g
  case callCc cc _ => cases taken : s.cond cc <;> simp [formEffect, formIME, taken]
  case retCc cc => cases taken : s.cond cc <;> simp [formEffect, formIME, taken]
  all_goals simp [formEffect, formEffect.rotatedA, formIME]

theorem runForm_eq_form {i : Instr} (s : State) (row : i ≠ .prefixCB) : runForm i s = i.form := by
  cases i
  case prefixCB => exact absurd rfl row
  all_goals rfl

/-- No extended form writes IME or HALTED. -/
theorem extForm_control (op2 : Byte) (ime : Bool) :
    formIME (extForm op2) ime = ime ∧ (extForm op2 == .halt) = false := by
  unfold extForm
  repeat' split
  all_goals exact ⟨rfl, rfl⟩

/-- HALT is the one row whose form halts. -/
theorem runForm_halt (i : Instr) (s : State) : (runForm i s == .halt) = (i == .halt) := by
  by_cases row : i = .prefixCB
  · subst row
    exact (extForm_control (s.readByte (s.pc + 1)) s.ime).2
  · rw [runForm_eq_form s row, Bool.eq_iff_iff, beq_iff_eq, beq_iff_eq]
    exact ⟨fun form => form_injective row (by decide) form, fun eq => congrArg Instr.form eq⟩

/-- An address that no presented write targets reads after a form as before it. -/
theorem readByte_formNext (g : Form) (s : State) (q : Word) (out : ∀ w ∈ formWrites g s, q ∉ writeTargets w.1) :
    (formNext g s).readByte q = s.readByte q := by
  obtain ⟨cart, xram, gm⟩ := formEffect_memory g s
  obtain ⟨-, -, romb, ramb, -, -⟩ := formEffect_control g s
  obtain ⟨cart', romb', ramb'⟩ := applyWrites_frame s (formWrites g s)
  calc (formNext g s).readByte q
      _ = (applyWrites s (formWrites g s)).readByte q :=
        State.readByte_congr _ _ q (cart.trans cart'.symm) xram gm (romb.trans romb'.symm) (ramb.trans ramb'.symm)
      _ = s.readByte q := readByte_applyWrites s _ q out

/-- Settles O48: a read depends on the arrays and the bank registers only. -/
theorem memoryFrame : Obligations.MemoryFrame := by
  intro i s t q ran out
  rw [exec_next ran]
  exact readByte_formNext (runForm i s) s q out

/-- Settles O51: the control state of the next state is the effect's, and the rows that write it are read off the
forms. -/
theorem controlStateFrame : Obligations.ControlStateFrame := by
  intro i s t ran
  obtain ⟨ime, halted, banks⟩ := formEffect_control (runForm i s) s
  obtain ⟨imeExt, -⟩ := extForm_control (s.readByte (s.pc + 1)) s.ime
  rw [exec_next ran]
  refine ⟨ime.trans ?_, halted.trans (by rw [runForm_halt]), banks⟩
  cases i
  case prefixCB => exact imeExt
  all_goals rfl

/-! ### Registers (R22, R23, R33) -/

@[simp] theorem State.getReg8_writeByte (s : State) (addr : Word) (v : Byte) (r : Reg8) :
    (s.writeByte addr v).getReg8 r = s.getReg8 r := by cases r <;> simp [State.getReg8]
@[simp] theorem State.getReg8_writeWord (s : State) (addr v : Word) (r : Reg8) :
    (s.writeWord addr v).getReg8 r = s.getReg8 r := by simp [State.writeWord]
@[simp] theorem State.getReg8_push16 (s : State) (w : Word) (r : Reg8) :
    (s.push16 w).getReg8 r = s.getReg8 r := by cases r <;> simp [State.getReg8]
@[simp] theorem State.getReg8_flags (s : State) (z n h c : Option Bool) (r : Reg8) :
    (s.flags z n h c).getReg8 r = s.getReg8 r := by cases r <;> rfl
@[simp] theorem State.getReg8_dropTop (s : State) (r : Reg8) : s.dropTop.getReg8 r = s.getReg8 r := by cases r <;> rfl

theorem State.getReg8_setReg16_other (s : State) (p : Reg16) (v : Word) (r : Reg8) (out : inReg16 p r = false) :
    (s.setReg16 p v).getReg8 r = s.getReg8 r := by
  cases p <;> cases r <;> cases out <;> rfl
theorem State.getReg8_setStk_other (s : State) (p : RegStk) (v : Word) (r : Reg8) (out : inStk p r = false) :
    (s.setStk p v).getReg8 r = s.getReg8 r := by
  cases p <;> cases r <;> cases out <;> rfl
theorem State.getReg8_setLoc_other (s : State) (x : Loc8) (v : Byte) (r : Reg8) (out : inLoc x r = false) :
    (s.setLoc x v).getReg8 r = s.getReg8 r := by
  cases x with
  | reg q => exact State.getReg8_setReg8_other s q r v (beq_eq_false_iff_ne.mp out)
  | mHL => exact State.getReg8_writeByte s _ v r
theorem State.getReg8_ptrAfter_other (s : State) (m : MemPtr) (r : Reg8) (out : inPtr m r = false) :
    (s.ptrAfter m).getReg8 r = s.getReg8 r := by
  cases m
  case bc | de => rfl
  case hlInc | hlDec => exact State.getReg8_setReg16_other s .hl _ r out

/-- Writing A leaves every other half. -/
theorem State.getReg8_setA_other (s : State) (v : Byte) (r : Reg8) (out : (r == .a) = false) :
    ({ s with a := v } : State).getReg8 r = s.getReg8 r :=
  State.getReg8_setReg8_other s .a r v (beq_eq_false_iff_ne.mp out)

theorem formEffect_getReg8 (g : Form) (s : State) (r : Reg8) (out : writesReg8 g r = false) :
    (formEffect g s).getReg8 r = s.getReg8 r := by
  cases g
  case nop | stop | illegal | prefixCB | jp | jpCc | jpHL | jr | jrCc => rfl
  case halt | di | ei | scf | ccf | bit | ldSPHL | addSP | ret | reti => cases r <;> rfl
  case cpl | daa | rlca | rrca | rla | rra | ldhFrom | ldCFrom | ldAbsFrom => exact s.getReg8_setA_other _ r out
  case alu o x =>
    by_cases cp : o = .cp
    · subst cp; cases r <;> rfl
    · exact s.getReg8_setA_other _ r (by simpa [writesReg8, cp] using out)
  case ldRR dst _ | ldRN dst _ | ldRM dst => exact State.getReg8_setReg8_other s dst r _ (beq_eq_false_iff_ne.mp out)
  case ldMR | ldMN | ldhTo | ldCTo | ldAbsTo => exact State.getReg8_writeByte s _ _ r
  case ldAbsSP => exact State.getReg8_writeWord s _ _ r
  case ldAFrom m =>
    obtain ⟨notA, notPtr⟩ := Bool.or_eq_false_iff.mp out
    exact (State.getReg8_ptrAfter_other _ m r notPtr).trans (s.getReg8_setA_other _ r notA)
  case ldATo m => exact (State.getReg8_ptrAfter_other _ m r out).trans (State.getReg8_writeByte s _ _ r)
  case ldPair p _ | incPair p | decPair p => exact State.getReg8_setReg16_other s p _ r out
  case ldHLSP | addHL => exact (State.getReg8_flags _ _ _ _ _ r).trans (State.getReg8_setReg16_other s .hl _ r out)
  case inc8 x | dec8 x => exact (State.getReg8_flags _ _ _ _ _ r).trans (State.getReg8_setLoc_other s x _ r out)
  case rot _ x => exact (State.getReg8_flags _ _ _ _ _ r).trans (State.getReg8_setLoc_other s x _ r out)
  case set _ x | res _ x => exact State.getReg8_setLoc_other s x _ r out
  case call | rst | push => exact State.getReg8_push16 s _ r
  case callCc cc _ => cases taken : s.cond cc <;> simp [formEffect, taken]
  case retCc cc => cases taken : s.cond cc <;> simp [formEffect, taken]
  case pop p => exact (State.getReg8_setStk_other _ p _ r out).trans (State.getReg8_dropTop s r)

theorem formEffect_sp (g : Form) (s : State) (out : writesSP g = false) : (formEffect g s).sp = s.sp := by
  cases g
  case ldPair p _ | incPair p | decPair p =>
    cases p
    case sp => exact Bool.noConfusion out
    all_goals rfl
  case ldSPHL | addSP | push | pop | call | callCc | ret | retCc | reti | rst => exact Bool.noConfusion out
  all_goals simp [formEffect, formEffect.rotatedA]

/-- Settles O49: the registers and SP of the next state are the effect's. -/
theorem registerFrame : Obligations.RegisterFrame := by
  intro i s t ran
  rw [exec_next ran]
  refine ⟨fun r out => ?_, formEffect_sp (runForm i s) s⟩
  rw [← formEffect_getReg8 (runForm i s) s r out]
  cases r <;> rfl

/-! ### Flags (R27) -/

/-- Every row of R27 whose four columns are `-` keeps F itself, and so the flags. -/
theorem flagRow_of_f {row : FlagRow} {s t : State} (keeps : row = ⟨.keep, .keep, .keep, .keep⟩) (same : t.f = s.f) :
    row.z.holds s.fZ t.fZ ∧ row.n.holds s.fN t.fN ∧ row.h.holds s.fH t.fH ∧ row.c.holds s.fC t.fC := by
  subst keeps
  simp only [FlagUse.holds, State.fZ, State.fN, State.fH, State.fC, same, and_self]

/-- A flag write follows its row when each argument does: a kept flag is written from F, which the effect has not
changed before (R9). -/
theorem flagRow_of_flags {row : FlagRow} {s t : State} {z n h c : Option Bool} (same : t.f = s.f)
    (entries : row.z.holds s.fZ (z.getD s.fZ) ∧ row.n.holds s.fN (n.getD s.fN) ∧ row.h.holds s.fH (h.getD s.fH) ∧
      row.c.holds s.fC (c.getD s.fC)) :
    row.z.holds s.fZ (t.flags z n h c).fZ ∧ row.n.holds s.fN (t.flags z n h c).fN ∧
    row.h.holds s.fH (t.flags z n h c).fH ∧ row.c.holds s.fC (t.flags z n h c).fC := by
  rw [State.flags_fZ, State.flags_fN, State.flags_fH, State.flags_fC]
  unfold State.fZ State.fN State.fH State.fC at *
  rwa [same]

theorem formEffect_flagRow (g : Form) (s : State) :
    (flagRow g).z.holds s.fZ (formEffect g s).fZ ∧ (flagRow g).n.holds s.fN (formEffect g s).fN ∧
    (flagRow g).h.holds s.fH (formEffect g s).fH ∧ (flagRow g).c.holds s.fC (formEffect g s).fC := by
  cases g
  case alu o _ => cases o <;> exact flagRow_of_flags rfl ⟨trivial, rfl, by trivial, by trivial⟩
  case rot o x => cases o <;> exact flagRow_of_flags (State.setLoc_f s x _) ⟨trivial, rfl, rfl, by trivial⟩
  case pop p =>
    cases p
    case af => exact ⟨trivial, trivial, trivial, trivial⟩
    all_goals exact flagRow_of_f rfl rfl
  case inc8 x | dec8 x => exact flagRow_of_flags (State.setLoc_f s x _) ⟨trivial, rfl, trivial, rfl⟩
  case ldHLSP | addSP => exact flagRow_of_flags rfl ⟨rfl, rfl, trivial, trivial⟩
  case addHL => exact flagRow_of_flags rfl ⟨rfl, rfl, trivial, trivial⟩
  case rlca | rrca | rla | rra => exact flagRow_of_flags rfl ⟨rfl, rfl, rfl, trivial⟩
  case bit => exact flagRow_of_flags rfl ⟨trivial, rfl, rfl, rfl⟩
  case daa => exact flagRow_of_flags rfl ⟨trivial, rfl, rfl, trivial⟩
  case cpl | scf => exact flagRow_of_flags rfl ⟨rfl, rfl, rfl, rfl⟩
  case ccf => exact flagRow_of_flags rfl ⟨rfl, rfl, rfl, trivial⟩
  case callCc cc _ => exact flagRow_of_f rfl (by cases taken : s.cond cc <;> simp [formEffect, taken])
  case retCc cc => exact flagRow_of_f rfl (by cases taken : s.cond cc <;> simp [formEffect, taken])
  all_goals exact flagRow_of_f rfl (by simp [formEffect])

/-- Settles O50: the flags of the next state are the effect's. -/
theorem flagTable : Obligations.FlagTable := by
  intro i s t ran
  rw [exec_next ran]
  exact formEffect_flagRow (runForm i s) s

/-! ### PC (R32, R110) -/

theorem formPC_eq (g : Form) (s : State) (free : assignsPC g s = false) :
    formPC g s = s.pcNext (formBytes g).length := by
  cases g
  case jp | jpHL | jr | call | ret | reti | rst => exact Bool.noConfusion free
  case jpCc | jrCc | callCc | retCc => exact if_neg (Bool.eq_false_iff.mp free)
  all_goals rfl

theorem formBytes_extForm_length (op2 : Byte) : (formBytes (extForm op2)).length = 2 := by
  unfold extForm
  split
  · exact formBytes_rot_length _ _
  repeat' split
  all_goals rfl

/-- The form that runs has the length R101 gives the opcode: for 0xCB that is the length of every extended form. -/
theorem formBytes_runForm_length (i : Instr) (s : State) :
    (formBytes (runForm i s)).length = opLength (i.encode.headD 0) := by
  by_cases row : i = .prefixCB
  · subst row
    exact formBytes_extForm_length _
  · rw [opLength_encode i row, encode_eq_form, runForm_eq_form s row]

/-- Settles O52: a form that assigns no PC goes to the address after its bytes. -/
theorem pcAdvances : Obligations.PCAdvances := by
  intro i s t ran free
  rw [exec_next ran, ← formBytes_runForm_length i s]
  exact formPC_eq (runForm i s) s free

end Sys2Proof.Machine
end

section
/-! Two runs (10_state.md R27, R28): what F and IME can influence. -/

namespace Sys2Proof.Machine

open Sys2Proof.Claims

/-- The state with another F and another IME. -/
def State.over (s : State) (f : Byte) (ime : Bool) : State := { s with f, ime }

/-! ### The shared operations neither read nor write F and IME -/

theorem State.writeByte_over (s : State) (addr : Word) (v x : Byte) (y : Bool) :
    (s.over x y).writeByte addr v = (s.writeByte addr v).over x y := by
  unfold State.writeByte State.over
  dsimp only
  (repeat' split) <;> rfl

theorem State.writeWord_over (s : State) (addr v : Word) (x : Byte) (y : Bool) :
    (s.over x y).writeWord addr v = (s.writeWord addr v).over x y := by
  simp only [State.writeWord, State.writeByte_over]

theorem State.push16_over (s : State) (w : Word) (x : Byte) (y : Bool) :
    (s.over x y).push16 w = (s.push16 w).over x y := by
  show { ((s.over x y).writeByte (s.sp - 1) _).writeByte (s.sp - 2) _ with sp := s.sp - 2 } = _
  rw [State.writeByte_over, State.writeByte_over]
  rfl

theorem State.setReg8_over (s : State) (r : Reg8) (v x : Byte) (y : Bool) :
    (s.over x y).setReg8 r v = (s.setReg8 r v).over x y := by cases r <;> rfl

theorem State.setReg16_over (s : State) (p : Reg16) (v : Word) (x : Byte) (y : Bool) :
    (s.over x y).setReg16 p v = (s.setReg16 p v).over x y := by cases p <;> rfl

theorem State.setLoc_over (s : State) (l : Loc8) (v x : Byte) (y : Bool) :
    (s.over x y).setLoc l v = (s.setLoc l v).over x y := by
  cases l with
  | reg r => exact s.setReg8_over r v x y
  | mHL => exact s.writeByte_over _ v x y

theorem State.ptrAfter_over (s : State) (m : MemPtr) (x : Byte) (y : Bool) :
    (s.over x y).ptrAfter m = (s.ptrAfter m).over x y := by cases m <;> rfl

/-! ### IME -/

/-- An update that moves past another IME and leaves F. -/
theorem State.eq_over_f {s t u : State} {y : Bool} (moved : t = u.over s.f y) (same : u.f = s.f) :
    t = u.over u.f y := by
  rw [same]
  exact moved

theorem State.flags_setLoc_over (s : State) (l : Loc8) (v : Byte) (z n h c : Option Bool) (y : Bool) :
    ((s.over s.f y).setLoc l v).flags z n h c =
      ((s.setLoc l v).flags z n h c).over ((s.setLoc l v).flags z n h c).f y := by
  rw [State.setLoc_over, ← s.setLoc_f l v]
  rfl

/-- The effect of every form from another IME is its effect, with IME as the form leaves it. -/
theorem formEffect_overIME (g : Form) (s : State) (y : Bool) :
    formEffect g (s.over s.f y) = (formEffect g s).over (formEffect g s).f (formIME g y) := by
  cases g
  case ldRR | ldRN | ldRM => exact State.eq_over_f (s.setReg8_over _ _ _ y) (s.setReg8_f _ _)
  case ldPair | incPair | decPair => exact State.eq_over_f (s.setReg16_over _ _ _ y) (s.setReg16_f _ _)
  case ldMR | ldMN | ldhTo | ldCTo | ldAbsTo => exact State.eq_over_f (s.writeByte_over _ _ _ y) (s.writeByte_f _ _)
  case ldAbsSP => exact State.eq_over_f (s.writeWord_over _ _ _ y) (s.writeWord_f _ _)
  case ldAFrom m => cases m <;> rfl
  case ldATo m =>
    refine State.eq_over_f ?_ ((State.ptrAfter_f _ m).trans (s.writeByte_f _ _))
    exact (congrArg (State.ptrAfter · m) (s.writeByte_over _ _ _ y)).trans (State.ptrAfter_over _ m _ y)
  case call | rst | push => exact State.eq_over_f (s.push16_over _ _ y) (s.push16_f _)
  case set | res => exact State.eq_over_f (s.setLoc_over _ _ _ y) (s.setLoc_f _ _)
  case inc8 | dec8 | rot => exact s.flags_setLoc_over _ _ _ _ _ _ y
  case callCc cc _ =>
    show (if s.cond cc then (s.over s.f y).push16 (s.pcNext 3) else s.over s.f y) =
      (if s.cond cc then _ else s).over (if s.cond cc then _ else s).f y
    split
    · exact State.eq_over_f (s.push16_over _ _ y) (s.push16_f _)
    · rfl
  case retCc cc =>
    show (if s.cond cc then (s.over s.f y).dropTop else s.over s.f y) =
      (if s.cond cc then _ else s).over (if s.cond cc then _ else s).f y
    split <;> rfl
  case pop p => cases p <;> rfl
  all_goals rfl

/-- PC after a form does not depend on IME. -/
theorem formPC_overIME (g : Form) (s : State) (y : Bool) : formPC g (s.over s.f y) = formPC g s := by cases g <;> rfl

/-- The outcome of every form, IME taken out, does not depend on IME. -/
theorem withoutIME_execForm (g : Form) (s : State) (y : Bool) (row : g ≠ .prefixCB) :
    withoutIME (execForm g (s.over s.f y)) = withoutIME (execForm g s) := by
  cases wf : g.wellFormed with
  | true =>
    rw [execForm_wellFormed g _ wf, execForm_wellFormed g s wf]
    unfold formNext
    rw [formEffect_overIME, formPC_overIME]
    rfl
  | false =>
    obtain ⟨op, signals⟩ := execForm_illFormed g wf row
    rw [signals, signals]
    rfl

/-- Settles O54: the fetch, the form that runs and the report read no IME, and the form's outcome keeps to IME. -/
theorem interruptEnableInfluencesNothing : Obligations.InterruptEnableInfluencesNothing := by
  intro s x
  refine ⟨?step, ?report⟩
  case step =>
    show withoutIME (step (s.over s.f x)) = withoutIME (step s)
    rcases step_cases s with ⟨halted, idle⟩ | ⟨running, step⟩
    · rw [idle, show Machine.step (s.over s.f x) = .next (s.over s.f x) from if_pos halted]
      rfl
    · have fetched : Machine.step (s.over s.f x) = exec s.fetch (s.over s.f x) := by
        unfold Machine.step
        rw [show (s.over s.f x).halted = false from running]
        rfl
      rw [step, fetched, exec_eq_runForm, exec_eq_runForm]
      exact withoutIME_execForm (runForm s.fetch s) s x (runForm_ne_prefix _ s)
  case report => rfl

/-! ### F -/

/-- An update that moves past another F and leaves IME gives the same state, F taken out. -/
theorem State.withoutF_of_over {t u : State} {x : Byte} {y : Bool} (moved : t = u.over x y) (same : u.ime = y) :
    ({ t with f := 0 } : State) = { u with f := 0 } := by
  subst moved same
  rfl

/-- A flag write changes nothing else. -/
theorem State.withoutF_flags {t u : State} {z n h c z' n' h' c' : Option Bool}
    (same : ({ t with f := 0 } : State) = { u with f := 0 }) :
    ({ t.flags z n h c with f := 0 } : State) = { u.flags z' n' h' c' with f := 0 } := same

/-- The effect of a form that reads no flags is the same from any F, but for F itself. -/
theorem formEffect_overF (g : Form) (s : State) (x : Byte) (quiet : readsFlags g = false) :
    ({ formEffect g (s.over x s.ime) with f := 0 } : State) = { formEffect g s with f := 0 } := by
  cases g
  case daa | rla | rra | callCc | retCc | prefixCB => exact Bool.noConfusion quiet
  case alu o _ =>
    cases o
    case adc | sbc => exact Bool.noConfusion quiet
    all_goals rfl
  case rot o _ =>
    cases o
    case rl | rr => exact Bool.noConfusion quiet
    all_goals exact State.withoutF_flags (State.withoutF_of_over (s.setLoc_over _ _ x s.ime) (s.setLoc_ime _ _))
  case push p =>
    cases p
    case af => exact Bool.noConfusion quiet
    all_goals exact State.withoutF_of_over (s.push16_over _ x s.ime) (s.push16_ime _)
  case pop p => cases p <;> rfl
  case ldRR | ldRN | ldRM => exact State.withoutF_of_over (s.setReg8_over _ _ x s.ime) (s.setReg8_ime _ _)
  case ldPair | incPair | decPair => exact State.withoutF_of_over (s.setReg16_over _ _ x s.ime) (s.setReg16_ime _ _)
  case ldMR | ldMN | ldhTo | ldCTo | ldAbsTo =>
    exact State.withoutF_of_over (s.writeByte_over _ _ x s.ime) (s.writeByte_ime _ _)
  case ldAbsSP => exact State.withoutF_of_over (s.writeWord_over _ _ x s.ime) (s.writeWord_ime _ _)
  case ldAFrom m => cases m <;> rfl
  case ldATo m =>
    refine State.withoutF_of_over (x := x) (y := s.ime) ?_ ((State.ptrAfter_ime _ m).trans (s.writeByte_ime _ _))
    exact (congrArg (State.ptrAfter · m) (s.writeByte_over _ _ x _)).trans (State.ptrAfter_over _ m x _)
  case call | rst => exact State.withoutF_of_over (s.push16_over _ x s.ime) (s.push16_ime _)
  case inc8 | dec8 =>
    exact State.withoutF_flags (State.withoutF_of_over (s.setLoc_over _ _ x s.ime) (s.setLoc_ime _ _))
  case set | res => exact State.withoutF_of_over (s.setLoc_over _ _ x s.ime) (s.setLoc_ime _ _)
  all_goals rfl

/-- PC after a form that reads no flags does not depend on F. -/
theorem formPC_overF (g : Form) (s : State) (x : Byte) (quiet : readsFlags g = false) :
    formPC g (s.over x s.ime) = formPC g s := by
  cases g
  case jpCc | jrCc | callCc | retCc => exact Bool.noConfusion quiet
  all_goals rfl

/-- Settles O53: a form of the map by its effect and PC; the Unimplemented signal reads no state but PC. -/
theorem flagsInfluenceOnlyReaders : Obligations.FlagsInfluenceOnlyReaders := by
  intro i s x quiet
  have row : i.form ≠ .prefixCB := fun form => by rw [form] at quiet; exact Bool.noConfusion quiet
  rw [exec_eq_form, exec_eq_form]
  generalize i.form = g at quiet row
  show withoutF (execForm g (s.over x s.ime)) = withoutF (execForm g s)
  cases wf : g.wellFormed with
  | true =>
    rw [execForm_wellFormed g _ wf, execForm_wellFormed g s wf]
    unfold formNext
    rw [formPC_overF g s x quiet]
    exact congrArg (fun t : State => Host.Outcome.next { t with pc := formPC g s }) (formEffect_overF g s x quiet)
  | false =>
    obtain ⟨op, signals⟩ := execForm_illFormed g wf row
    rw [signals, signals]
    rfl

end Sys2Proof.Machine
end

section
/-! The rules of the instructions, I (40_load_store.md, 42_arith16.md, 46_control.md, 47_stack.md, 48_misc.md): moves,
16-bit arithmetic, control transfer, the stack and the system rows. Each rule is its form's next state. -/

namespace Sys2Proof.Machine

open Sys2Proof.Claims

/-! ### Loads, stores and moves -/

/-- Settles O12: R140 to R142. -/
theorem registerLoads : Obligations.RegisterLoads := by
  intro i dst src n s
  exact ⟨fun form => retires_of_formNext form rfl rfl rfl rfl, fun form => retires_of_formNext form rfl rfl rfl rfl,
    fun form => retires_of_formNext form rfl rfl rfl rfl⟩

/-- Settles O13: R143, R144. -/
theorem storesThroughHL : Obligations.StoresThroughHL := by
  intro i src n s
  exact ⟨fun form => retires_of_formNext form rfl rfl rfl rfl, fun form => retires_of_formNext form rfl rfl rfl rfl⟩

@[simp] theorem State.hl_writeByte (s : State) (addr : Word) (v : Byte) : (s.writeByte addr v).hl = s.hl := by
  simp only [State.hl, State.writeByte_h, State.writeByte_l]

/-- Settles O14: R145 to R152. The store leaves HL, which then moves. -/
theorem pointerLoadsAndStores : Obligations.PointerLoadsAndStores := by
  intro s
  refine ⟨?_, ?_, ?_, ?_, ?_, ?_, ?storeInc, ?storeDec⟩
  case storeInc =>
    refine retires_of_formNext (g := .ldATo .hlInc) rfl rfl ?_ rfl rfl
    show { (s.writeByte s.hl s.a).setHL ((s.writeByte s.hl s.a).hl + 1) with pc := s.pcNext 1 } = _
    rw [State.hl_writeByte]
    rfl
  case storeDec =>
    refine retires_of_formNext (g := .ldATo .hlDec) rfl rfl ?_ rfl rfl
    show { (s.writeByte s.hl s.a).setHL ((s.writeByte s.hl s.a).hl - 1) with pc := s.pcNext 1 } = _
    rw [State.hl_writeByte]
    rfl
  all_goals exact retires_of_formNext rfl rfl rfl rfl rfl

/-- A high-page address is plain storage in GM (R67, R153 to R156). -/
theorem State.writeByte_highPage (s : State) (a8 v : Byte) :
    s.writeByte (highPage a8) v = { s with gm := s.gm.write (0xFF00 + a8.toNat) v } := by
  have addr := highPage_toNat a8
  have plain := State.writeByte_plain s (highPage a8) v (.inr (.inr (by unfold highPage; omega)))
  rwa [highPage, addr] at plain

@[inherit_doc State.writeByte_highPage] theorem State.readByte_highPage (s : State) (a8 : Byte) :
    s.readByte (highPage a8) = s.gm.read (0xFF00 + a8.toNat) := by
  have addr := highPage_toNat a8
  have plain := State.readByte_gm s (highPage a8) (by unfold highPage; omega) (by unfold highPage; omega)
  rwa [highPage, addr] at plain

/-- Settles O15: R153 to R156, with the high page's one cell of GM. -/
theorem highPageAccess : Obligations.HighPageAccess := by
  intro a8 s
  refine ⟨?_, ?_, ?_, ?_⟩
  · exact retires_of_formNext (g := .ldhTo a8) rfl rfl
      (congrArg (fun t : State => { t with pc := s.pcNext 2 }) (s.writeByte_highPage a8 s.a)) rfl rfl
  · exact retires_of_formNext (g := .ldhFrom a8) rfl rfl
      (congrArg (fun v : Byte => { s with a := v, pc := s.pcNext 2 }) (s.readByte_highPage a8)) rfl rfl
  · exact retires_of_formNext (g := .ldCTo) rfl rfl
      (congrArg (fun t : State => { t with pc := s.pcNext 1 }) (s.writeByte_highPage s.c s.a)) rfl rfl
  · exact retires_of_formNext (g := .ldCFrom) rfl rfl
      (congrArg (fun v : Byte => { s with a := v, pc := s.pcNext 1 }) (s.readByte_highPage s.c)) rfl rfl

/-- Settles O16: R157, R158, R160 to R162. -/
theorem absoluteAndPairLoads : Obligations.AbsoluteAndPairLoads := by
  intro w s
  refine ⟨?_, ?_, ?_, ?_, ?_, ?_, ?_, ?_⟩
  all_goals exact retires_of_formNext rfl rfl rfl rfl rfl

/-- Settles O17: the two additions agree in their value (`add_sext16`) and differ in where they take the carries. -/
theorem offsetsFromSP : Obligations.OffsetsFromSP := by
  intro e8 s v off
  have value : s.sp + sext16 e8 = v := add_sext16 s.sp e8
  constructor
  · refine retires_of_formNext (g := .ldHLSP e8) rfl rfl ?_ rfl rfl
    rw [← value]
    rfl
  · refine retires_of_formNext (g := .addSP e8) rfl rfl ?_ rfl rfl
    have offset : off = (sext16 e8).toNat := by rw [sext16_eq_signExtend]
    have sum : (addWords s.sp (sext16 e8)).val = v := (addWords_val _ _).trans value
    rw [← sum, offset]
    rfl

/-! ### 16-bit arithmetic -/

/-- Counting a pair up and down, in numbers (R232, R233). -/
theorem pair_add_one (w : Word) : w + 1 = BitVec.ofNat 16 (w.toNat + 1) := by
  apply BitVec.eq_of_toNat_eq
  simp only [BitVec.toNat_add, BitVec.toNat_ofNat]
  rfl

@[inherit_doc pair_add_one] theorem pair_sub_one (w : Word) : w - 1 = BitVec.ofNat 16 (w.toNat + 0xFFFF) := by
  apply BitVec.eq_of_toNat_eq
  rw [BitVec.toNat_sub, BitVec.toNat_ofNat, Nat.add_comm]
  rfl

/-- Settles O22: R232, R233. -/
theorem incrementDecrementPair : Obligations.IncrementDecrementPair := by
  intro i p s
  rw [← pair_add_one, ← pair_sub_one]
  exact ⟨fun form => retires_of_formNext form rfl rfl rfl rfl, fun form => retires_of_formNext form rfl rfl rfl rfl⟩

/-- Settles O23: R230. -/
theorem addPairToHL : Obligations.AddPairToHL := by
  intro i p s form v
  refine retires_of_formNext form rfl ?_ rfl rfl
  rw [← addWords_val]
  rfl

/-! ### Control transfer -/

/-- The target of JR in one sum: the address after the two bytes plus the signed displacement (R323). -/
theorem State.relTarget_eq (s : State) (e8 : Byte) : s.relTarget e8 = BitVec.ofInt 16 (s.pc.toNat + 2 + e8.toInt) := by
  rw [show (s.pc.toNat : Int) + 2 + e8.toInt = s.pc.toNat + e8.toInt + 2 by omega, BitVec.ofInt_add, ← add_sext16]
  show s.pc + 2 + sext16 e8 = s.pc + sext16 e8 + 2
  rw [BitVec.add_assoc, BitVec.add_comm 2, ← BitVec.add_assoc]

/-- Settles O28: R320, R321, R323, R324. -/
theorem jumpsSetPC : Obligations.JumpsSetPC := by
  intro i cc a16 e8 s near
  have target : near = s.relTarget e8 := (s.relTarget_eq e8).symm
  rw [target]
  exact ⟨fun form => retires_of_formNext form rfl rfl rfl rfl, fun form => retires_of_formNext form rfl rfl rfl rfl,
    fun form => retires_of_formNext form rfl rfl rfl rfl, fun form => retires_of_formNext form rfl rfl rfl rfl⟩

/-- Settles O29: R325, R326, R330. -/
theorem callsPushReturnAddress : Obligations.CallsPushReturnAddress := by
  intro i cc a16 y s pushed called condBytes
  have next : formNext (.callCc cc a16) s = if s.cond cc then called else { s with pc := s.pc + 3 } := by
    show { (if s.cond cc then s.push16 (s.pcNext 3) else s) with pc := if s.cond cc then a16 else s.pcNext 3 } = _
    cases s.cond cc <;> rfl
  refine ⟨fun form => retires_of_formNext form rfl rfl rfl rfl,
    fun form taken => ?taken, fun form notTaken => ?notTaken,
    fun form => retires_of_formNext form rfl rfl rfl rfl⟩
  case taken => exact retires_of_formNext form rfl (next.trans (if_pos taken)) rfl (if_pos taken)
  case notTaken =>
    have skip := Bool.eq_false_iff.mp notTaken
    exact retires_of_formNext form rfl (next.trans (if_neg skip)) rfl (if_neg skip)

/-- Settles O30: R327, R328. -/
theorem returnsPopPC : Obligations.ReturnsPopPC := by
  intro i cc s popped
  have next : formNext (.retCc cc) s = if s.cond cc then popped else { s with pc := s.pc + 1 } := by
    show { (if s.cond cc then s.dropTop else s) with pc := if s.cond cc then s.stackTop else s.pcNext 1 } = _
    cases s.cond cc <;> rfl
  exact ⟨fun form => retires_of_formNext form rfl rfl rfl rfl, fun form => retires_of_formNext form rfl next rfl rfl⟩

/-- Settles O31: R322, R329. -/
theorem returnEnableAndJumpHL : Obligations.ReturnEnableAndJumpHL := by
  intro s
  exact ⟨retires_of_formNext (g := .reti) rfl rfl rfl rfl rfl, retires_of_formNext (g := .jpHL) rfl rfl rfl rfl rfl⟩

/-! ### The stack -/

/-- The halves of the word on top of the stack (R354). -/
@[simp] theorem State.hiByte_stackTop (s : State) : hiByte s.stackTop = s.readByte (s.sp + 1) := hiByte_word16 _ _
@[simp] theorem State.loByte_stackTop (s : State) : loByte s.stackTop = s.readByte s.sp := loByte_word16 _ _

/-- Pushing the word of two halves presents the halves (R353). -/
theorem State.push16_word16 (s : State) (hi lo : Byte) :
    s.push16 (word16 hi lo) = { (s.writeByte (s.sp - 1) hi).writeByte (s.sp - 2) lo with sp := s.sp - 2 } := by
  rw [State.push16, hiByte_word16, loByte_word16]

/-- Settles O32: R350, R351; a pair is the word of its halves, and the popped word's halves are the cells'. -/
theorem pushAndPopPairs : Obligations.PushAndPopPairs := by
  intro s pushed lo hi
  have push : ∀ h l : Byte, ({ s.push16 (word16 h l) with pc := s.pcNext 1 } : State) = pushed h l := fun h l =>
    congrArg (fun t : State => { t with pc := s.pcNext 1 }) (s.push16_word16 h l)
  have pop : ∀ setPair : Byte → Byte → State, setPair (hiByte s.stackTop) (loByte s.stackTop) = setPair hi lo :=
    fun setPair => by rw [State.hiByte_stackTop, State.loByte_stackTop]
  refine ⟨?_, ?_, ?_, ?_, ?_, ?_, ?_⟩
  · exact retires_of_formNext (g := .push .bc) rfl rfl (push s.b s.c) rfl rfl
  · exact retires_of_formNext (g := .push .de) rfl rfl (push s.d s.e) rfl rfl
  · exact retires_of_formNext (g := .push .hl) rfl rfl (push s.h s.l) rfl rfl
  · exact retires_of_formNext (g := .push .af) rfl rfl (push s.a s.f) rfl rfl
  · exact retires_of_formNext (g := .pop .bc) rfl rfl
      (pop fun h l => { s.dropTop with b := h, c := l, pc := s.pcNext 1 }) rfl rfl
  · exact retires_of_formNext (g := .pop .de) rfl rfl
      (pop fun h l => { s.dropTop with d := h, e := l, pc := s.pcNext 1 }) rfl rfl
  · exact retires_of_formNext (g := .pop .hl) rfl rfl
      (pop fun h l => { s.dropTop with h := h, l := l, pc := s.pcNext 1 }) rfl rfl

/-- A byte with bits 3..0 cleared is the byte of its flags (R25, R352). -/
theorem mask_eq_flagByte (f : Byte) :
    f &&& 0xF0 = flagByte (f.getLsbD 7) (f.getLsbD 6) (f.getLsbD 5) (f.getLsbD 4) := by revert f; decide

/-- Settles O33: R352. -/
theorem popAFMasksFlags : Obligations.PopAFMasksFlags := by
  intro s lo
  refine retires_of_formNext (g := .pop .af) rfl rfl ?_ rfl rfl
  show { s.dropTop with a := hiByte s.stackTop, f := loByte s.stackTop &&& 0xF0, pc := s.pcNext 1 } = _
  rw [State.hiByte_stackTop, State.loByte_stackTop, mask_eq_flagByte]
  rfl

/-! ### System rows -/

/-- Settles O36: R360, R366. -/
theorem nopAndComplement : Obligations.NopAndComplement := by
  intro s
  exact ⟨retires_of_formNext (g := .nop) rfl rfl rfl rfl rfl, retires_of_formNext (g := .cpl) rfl rfl rfl rfl rfl⟩

/-- Settles O37: R361 to R365, R368, R369, and the Idle step of R362. -/
theorem systemInstructions : Obligations.SystemInstructions := by
  intro s pad
  refine ⟨?_, fun halted => ⟨if_pos halted, if_pos halted⟩, ?_, fun wrong => if_neg wrong, ?_, ?_, ?_, ?_⟩
  all_goals exact retires_of_formNext rfl rfl rfl rfl rfl

end Sys2Proof.Machine
end

section
/-! The rules of the instructions, II (41_alu8.md, 43_incdec8.md, 44_rotate_shift.md, 45_bit.md, 48_misc.md R367): the
arithmetic on bytes, in numbers. -/

namespace Sys2Proof.Machine

open Sys2Proof.Claims

/-! ### Bytes as numbers -/

theorem byte_mod (n : Nat) : (BitVec.ofNat 8 (n % 256) : Byte) = BitVec.ofNat 8 n := by
  apply BitVec.eq_of_toNat_eq
  simp

/-- Z of a result, in numbers. -/
theorem byte_beq_zero (n : Nat) : ((BitVec.ofNat 8 n : Byte) == 0) = decide (n % 256 = 0) := by
  rw [Bool.eq_iff_iff, beq_iff_eq, decide_eq_true_iff, BitVec.toNat_eq]
  rfl

/-! ### The 8-bit ALU (R200 to R209) -/

/-- The rule of an ALU row from what its operation computes: A (but for CP) and the four flags. -/
theorem retires_alu {i : Instr} {o : AluOp} {x : Src8} {s : State} {r : Alu8Result} (form : i.form = .alu o x)
    (result : aluCompute o s.a (s.getSrc x) s.fC = r) :
    Retires i s { s with
      a := if o = .cp then s.a else r.val, f := flagByte r.z r.n r.h r.c, pc := s.pc + aluLength x }
      (formBytes (.alu o x)) (aluCycles x) := by
  have length : s.pcNext (formBytes (.alu o x)).length = s.pc + aluLength x := by
    rw [formBytes_alu_length]
    cases x <;> rfl
  refine retires_of_formNext form rfl ?_ rfl ?count
  case count => match x with | .loc (.reg _) | .loc .mHL | .imm _ => rfl
  rw [← result, ← length]
  rfl

/-- The same for a row that writes A. -/
theorem retires_alu_written {i : Instr} {o : AluOp} {x : Src8} {s : State} {r : Alu8Result} (form : i.form = .alu o x)
    (result : aluCompute o s.a (s.getSrc x) s.fC = r) (written : o ≠ .cp) :
    Retires i s { s with a := r.val, f := flagByte r.z r.n r.h r.c, pc := s.pc + aluLength x }
      (formBytes (.alu o x)) (aluCycles x) := by
  have rule := retires_alu form result
  rwa [if_neg written] at rule

theorem aluCompute_add (a x : Byte) (cin : Bool) : aluCompute .add a x cin =
    ⟨a + x, a + x == 0, false, decide (a.toNat % 16 + x.toNat % 16 > 15), decide (a.toNat + x.toNat > 255)⟩ := by
  have val : (addBytes a x false).val = a + x := (addBytes_val a x false).trans (BitVec.add_zero _)
  rw [← val]
  rfl

theorem subBytes_eq (a x : Byte) : subBytes a x false =
    ⟨a - x, a == x, true, decide (a.toNat % 16 < x.toNat % 16), decide (a.toNat < x.toNat)⟩ := by
  have val : (subBytes a x false).val = a - x := (subBytes_val a x false).trans (BitVec.sub_zero _)
  rw [← sub_beq_zero, ← val]
  rfl

/-- Settles O18: R201, R203, R208. -/
theorem addSubtractCompare : Obligations.AddSubtractCompare := by
  intro i x s v next less
  refine ⟨fun form => ?add, fun form => ?sub, fun form => ?cp⟩
  case add => exact (retires_alu_written form (aluCompute_add s.a v s.fC) nofun :)
  case sub => exact (retires_alu_written form (subBytes_eq s.a v) nofun :)
  case cp => exact (retires_alu form (subBytes_eq s.a v) :)

/-- Settles O19: R202, R204. -/
theorem carryArithmetic : Obligations.CarryArithmetic := by
  intro i x s v cin next sum diff
  have adc : addBytes s.a (s.getSrc x) s.fC = ⟨BitVec.ofNat 8 sum, decide (sum = 0), false,
      decide (s.a.toNat % 16 + v % 16 + cin > 15), decide (s.a.toNat + v + cin > 255)⟩ := by
    rw [byte_mod, ← byte_beq_zero]
    rfl
  have sbc : subBytes s.a (s.getSrc x) s.fC = ⟨BitVec.ofNat 8 diff, decide (diff = 0), true,
      decide (s.a.toNat % 16 < v % 16 + cin), decide (s.a.toNat < v + cin)⟩ := by
    rw [byte_mod, ← byte_beq_zero, Nat.sub_sub]
    rfl
  exact ⟨fun form => (retires_alu_written form adc nofun :), fun form => (retires_alu_written form sbc nofun :)⟩

/-- Settles O20: R205 to R207. -/
theorem logicOperations : Obligations.LogicOperations := by
  intro i x s v next
  exact ⟨fun form => retires_alu_written form rfl nofun, fun form => retires_alu_written form rfl nofun,
    fun form => retires_alu_written form rfl nofun⟩

/-! ### INC and DEC (R250 to R253) -/

theorem byte_add_one (v : Byte) :
    v + 1 = BitVec.ofNat 8 (v.toNat + 1) ∧ (v + 1 == 0) = decide (v.toNat = 255) := by revert v; decide

theorem byte_sub_one (v : Byte) :
    v - 1 = BitVec.ofNat 8 (v.toNat + 255) ∧ (v - 1 == 0) = decide (v.toNat = 1) := by revert v; decide

/-- Carry, which INC and DEC keep, is not in the operand. -/
@[simp] theorem State.setLoc_fC (s : State) (x : Loc8) (v : Byte) : (s.setLoc x v).fC = s.fC := by
  simp only [State.fC, State.setLoc_f]

/-- Settles O21: R250 to R253. -/
theorem incrementDecrementByte : Obligations.IncrementDecrementByte := by
  intro i x s v
  obtain ⟨up, upZ⟩ := byte_add_one (s.getLoc x)
  obtain ⟨down, downZ⟩ := byte_sub_one (s.getLoc x)
  constructor
  · intro form
    refine retires_of_formNext form rfl ?next rfl ?count
    case count => cases x <;> rfl
    rw [← up, ← upZ, ← s.setLoc_fC x (s.getLoc x + 1)]
    rfl
  · intro form
    refine retires_of_formNext form rfl ?_ rfl ?count
    case count => cases x <;> rfl
    rw [← down, ← downZ, ← s.setLoc_fC x (s.getLoc x - 1)]
    rfl

/-! ### Rotates and shifts (R260 to R272) -/

/-- The rule of a rotate or shift row from what its operation computes: the operand and Carry. -/
theorem retires_rot {i : Instr} {o : RotOp} {x : Loc8} {s : State} {r : RotResult} (form : i.form = .rot o x)
    (result : rotCompute o (s.getLoc x) s.fC = r) :
    Retires i s { s.setLoc x r.val with f := flagByte (r.val == 0) false false r.c, pc := s.pc + 2 }
      (formBytes (.rot o x)) (operandCycles x 8 16) := by
  have length : s.pcNext (formBytes (.rot o x)).length = s.pc + 2 := by rw [formBytes_rot_length]; rfl
  refine retires_of_formNext form rfl ?_ rfl ?count
  case count => cases x <;> rfl
  rw [← result, ← length]
  rfl

/-- The same for a result given as a number. -/
theorem retires_rot_ofNat {i : Instr} {o : RotOp} {x : Loc8} {s : State} {w c : Nat} (form : i.form = .rot o x)
    (lt : w < 256) (result : rotCompute o (s.getLoc x) s.fC = ⟨BitVec.ofNat 8 w, decide (c = 1)⟩) :
    Retires i s { s.setLoc x (BitVec.ofNat 8 w) with
      f := flagByte (decide (w = 0)) false false (decide (c = 1)), pc := s.pc + 2 }
      (formBytes (.rot o x)) (operandCycles x 8 16) := by
  have zero := byte_beq_zero w
  rw [Nat.mod_eq_of_lt lt] at zero
  rw [← zero]
  exact retires_rot form result

theorem rotCompute_rlc (v : Byte) (cin : Bool) : rotCompute .rlc v cin =
    ⟨BitVec.ofNat 8 (v.toNat * 2 % 256 + v.toNat / 128), decide (v.toNat / 128 = 1)⟩ := by revert v cin; decide
theorem rotCompute_rrc (v : Byte) (cin : Bool) : rotCompute .rrc v cin =
    ⟨BitVec.ofNat 8 (v.toNat / 2 + v.toNat % 2 * 128), decide (v.toNat % 2 = 1)⟩ := by revert v cin; decide
theorem rotCompute_rl (v : Byte) (cin : Bool) : rotCompute .rl v cin =
    ⟨BitVec.ofNat 8 (v.toNat * 2 % 256 + if cin then 1 else 0), decide (v.toNat / 128 = 1)⟩ := by revert v cin; decide
theorem rotCompute_rr (v : Byte) (cin : Bool) : rotCompute .rr v cin =
    ⟨BitVec.ofNat 8 (v.toNat / 2 + (if cin then 1 else 0) * 128), decide (v.toNat % 2 = 1)⟩ := by revert v cin; decide
theorem rotCompute_sla (v : Byte) (cin : Bool) : rotCompute .sla v cin =
    ⟨BitVec.ofNat 8 (v.toNat * 2 % 256), decide (v.toNat / 128 = 1)⟩ := by revert v cin; decide
theorem rotCompute_swap (v : Byte) (cin : Bool) : rotCompute .swap v cin =
    ⟨BitVec.ofNat 8 (v.toNat % 16 * 16 + v.toNat / 16), false⟩ := by revert v cin; decide
theorem rotCompute_sra (v : Byte) (cin : Bool) : rotCompute .sra v cin =
    ⟨BitVec.ofInt 8 (v.toInt / 2), decide (v.toNat % 2 = 1)⟩ := by revert v cin; decide
theorem rotCompute_srl (v : Byte) (cin : Bool) : rotCompute .srl v cin =
    ⟨BitVec.ofNat 8 (v.toNat / 2), decide (v.toNat % 2 = 1)⟩ := by revert v cin; decide

/-- Settles O24: R264 to R268, R270. -/
theorem rotatesAndShifts : Obligations.RotatesAndShifts := by
  intro i x s v cin done
  have byte : v < 256 := (s.getLoc x).isLt
  have bit : cin ≤ 1 := by show (if s.fC then 1 else 0) ≤ 1; split <;> omega
  refine ⟨fun form => retires_rot_ofNat form ?_ (rotCompute_rlc _ _),
    fun form => retires_rot_ofNat form ?_ (rotCompute_rrc _ _),
    fun form => retires_rot_ofNat form ?_ (rotCompute_rl _ _),
    fun form => retires_rot_ofNat form ?_ (rotCompute_rr _ _),
    fun form => retires_rot_ofNat form ?_ (rotCompute_sla _ _),
    fun form => retires_rot_ofNat form ?_ (rotCompute_swap _ _)⟩
  all_goals omega

/-- Settles O25: R269, R271. -/
theorem shiftsRight : Obligations.ShiftsRight := by
  intro i x s v done
  exact ⟨fun form => retires_rot form (rotCompute_sra _ _), fun form => retires_rot form (rotCompute_srl _ _)⟩

/-- The rule of an accumulator rotate: A and Carry, with Z cleared (R260 to R263). -/
theorem formEffect_rotatedA {o : RotOp} {s : State} {r : RotResult} (result : rotCompute o s.a s.fC = r) :
    formEffect.rotatedA o s = { s with a := r.val, f := flagByte false false false r.c } := by
  subst result
  rfl

/-- Settles O26: R260 to R263. -/
theorem accumulatorRotates : Obligations.AccumulatorRotates := by
  intro s v cin done
  have atEnd : ∀ {t u : State}, t = u → ({ t with pc := s.pcNext 1 } : State) = { u with pc := s.pc + 1 } :=
    fun same => by subst same; rfl
  exact ⟨retires_of_formNext (g := .rlca) rfl rfl (atEnd (formEffect_rotatedA (rotCompute_rlc _ _))) rfl rfl,
    retires_of_formNext (g := .rrca) rfl rfl (atEnd (formEffect_rotatedA (rotCompute_rrc _ _))) rfl rfl,
    retires_of_formNext (g := .rla) rfl rfl (atEnd (formEffect_rotatedA (rotCompute_rl _ _))) rfl rfl,
    retires_of_formNext (g := .rra) rfl rfl (atEnd (formEffect_rotatedA (rotCompute_rr _ _))) rfl rfl⟩

/-! ### BIT, SET and RES (R300 to R302) -/

theorem getLsbD_eq (v : Byte) (b : Nat) : v.getLsbD b = decide (v.toNat / 2 ^ b % 2 = 1) :=
  Nat.testBit_eq_decide_div_mod_eq

/-- Setting and clearing one bit, in numbers. -/
theorem or_bitMask (b : Fin 8) (v : Byte) :
    v ||| bitMask b = BitVec.ofNat 8 (if v.toNat / 2 ^ b.val % 2 = 1 then v.toNat else v.toNat + 2 ^ b.val) := by
  revert v
  induction b using field8_cases <;> decide

@[inherit_doc or_bitMask] theorem and_not_bitMask (b : Fin 8) (v : Byte) :
    v &&& ~~~(bitMask b) = BitVec.ofNat 8 (if v.toNat / 2 ^ b.val % 2 = 1 then v.toNat - 2 ^ b.val else v.toNat) := by
  revert v
  induction b using field8_cases <;> decide

/-- Settles O27: R300 to R302. -/
theorem bitOperations : Obligations.BitOperations := by
  intro i b x s v isSet
  refine ⟨fun form => ?bit, fun form => ?set, fun form => ?res⟩
  case bit =>
    refine retires_of_formNext form rfl ?_ rfl (by cases x <;> rfl)
    rw [decide_not, ← getLsbD_eq (s.getLoc x) b.val]
    rfl
  case set =>
    refine retires_of_formNext form rfl ?_ rfl (by cases x <;> rfl)
    rw [← or_bitMask b (s.getLoc x)]
    rfl
  case res =>
    refine retires_of_formNext form rfl ?_ rfl (by cases x <;> rfl)
    rw [← and_not_bitMask b (s.getLoc x)]
    rfl

end Sys2Proof.Machine
end

section
/-! The rules of the instructions, III (48_misc.md R367): DAA is its printed table, and decimal arithmetic follows. -/

namespace Sys2Proof.Machine

open Sys2Proof.Claims

/-! ### The correction -/

/-- The pseudocode of R367 computes what its table prints. -/
theorem daaCompute_eq_daaTable (a : Byte) (n h c : Bool) :
    let row := daaTable n c (a.toNat / 16) h (a.toNat % 16)
    daaCompute a n h c = ⟨a + row.1, row.2⟩ := by
  revert a
  cases n <;> cases h <;> cases c <;> decide

/-- The rule of DAA from what the correction computes: A and Carry. -/
theorem retires_daa {s : State} {r : RotResult} (result : daaCompute s.a s.fN s.fH s.fC = r) :
    Retires .daa s { s with a := r.val, f := flagByte (r.val == 0) s.fN false r.c, pc := s.pc + 1 } [0x27] 4 := by
  refine retires_of_formNext (g := .daa) rfl rfl ?_ rfl rfl
  rw [← result]
  rfl

/-- Settles O38: R367. -/
theorem decimalAdjustIsTheTable : Obligations.DecimalAdjustIsTheTable := fun s =>
  (retires_daa (daaCompute_eq_daaTable s.a s.fN s.fH s.fC) :)

/-- The two digits of the correction are decided apart: after an addition, and after a subtraction. -/
theorem daaAdjust_add_toNat (a : Byte) (h c : Bool) : (daaAdjust a false h c).toNat =
    (if h = true ∨ a.toNat % 16 > 9 then 6 else 0) + (if c = true ∨ a.toNat > 0x99 then 0x60 else 0) := by
  revert a
  cases h <;> cases c <;> decide

@[inherit_doc daaAdjust_add_toNat] theorem daaAdjust_sub_toNat (a : Byte) (h c : Bool) : (daaAdjust a true h c).toNat =
    (if h = true then 6 else 0) + (if c = true then 0x60 else 0) := by
  cases h <;> cases c <;> rfl

/-! ### Decimal arithmetic, on numbers: the split is by the decimal carry or borrow out of each digit -/

theorem digits_add {a b a₁ a₀ b₁ b₀ d : Nat} (ha : a = 16 * a₁ + a₀) (hb : b = 16 * b₁ + b₀)
    (a1 : a₁ ≤ 9) (a0 : a₀ ≤ 9) (b1 : b₁ ≤ 9) (b0 : b₀ ≤ 9)
    (val : d = ((a + b) % 256 + ((if a₀ + b₀ > 15 ∨ (a + b) % 256 % 16 > 9 then 6 else 0) +
      (if a + b > 255 ∨ (a + b) % 256 > 0x99 then 0x60 else 0))) % 256) :
    ∃ t o, d = 16 * t + o ∧ t ≤ 9 ∧ o ≤ 9 ∧ 10 * t + o = (a₁ * 10 + a₀ + (b₁ * 10 + b₀)) % 100 := by
  have low : (a + b) % 256 % 16 = (a₀ + b₀) % 16 := by omega
  rw [low] at val
  by_cases carry : a₀ + b₀ ≤ 9
  · rw [if_neg (by omega)] at val
    by_cases carryOut : a₁ + b₁ ≤ 9
    · rw [if_neg (by omega)] at val
      exact ⟨a₁ + b₁, a₀ + b₀, by omega⟩
    · rw [if_pos (by omega)] at val
      exact ⟨a₁ + b₁ - 10, a₀ + b₀, by omega⟩
  · rw [if_pos (by omega)] at val
    by_cases carryOut : a₁ + b₁ + 1 ≤ 9
    · rw [if_neg (by omega)] at val
      exact ⟨a₁ + b₁ + 1, a₀ + b₀ - 10, by omega⟩
    · rw [if_pos (by omega)] at val
      exact ⟨a₁ + b₁ + 1 - 10, a₀ + b₀ - 10, by omega⟩

theorem digits_sub {a b a₁ a₀ b₁ b₀ d : Nat} (ha : a = 16 * a₁ + a₀) (hb : b = 16 * b₁ + b₀)
    (a1 : a₁ ≤ 9) (a0 : a₀ ≤ 9) (b1 : b₁ ≤ 9) (b0 : b₀ ≤ 9)
    (val : d = (256 - ((if a₀ < b₀ then 6 else 0) + (if a < b then 0x60 else 0)) + (a + 0x200 - b) % 256) % 256) :
    ∃ t o, d = 16 * t + o ∧ t ≤ 9 ∧ o ≤ 9 ∧ 10 * t + o = (a₁ * 10 + a₀ + 100 - (b₁ * 10 + b₀)) % 100 := by
  by_cases borrow : a₀ < b₀
  · rw [if_pos borrow] at val
    by_cases borrowOut : a < b
    · rw [if_pos borrowOut] at val
      exact ⟨a₁ + 9 - b₁, a₀ + 10 - b₀, by omega⟩
    · rw [if_neg borrowOut] at val
      exact ⟨a₁ - 1 - b₁, a₀ + 10 - b₀, by omega⟩
  · rw [if_neg borrow] at val
    by_cases borrowOut : a < b
    · rw [if_pos borrowOut] at val
      exact ⟨a₁ + 10 - b₁, a₀ - b₀, by omega⟩
    · rw [if_neg borrowOut] at val
      exact ⟨a₁ - b₁, a₀ - b₀, by omega⟩

/-! ### Decimal arithmetic, on bytes -/

theorem bcdValid_iff {a : Byte} : bcdValid a = true ↔ a.toNat / 16 ≤ 9 ∧ a.toNat % 16 ≤ 9 := by
  simp [bcdValid]

/-- A byte written by its two digits. -/
theorem bcd_of_digits {d : Byte} {n : Nat}
    (digits : ∃ t o, d.toNat = 16 * t + o ∧ t ≤ 9 ∧ o ≤ 9 ∧ 10 * t + o = n) : bcdValid d = true ∧ bcdValue d = n := by
  obtain ⟨t, o, val, ht, ho, rfl⟩ := digits
  rw [bcdValid_iff]
  unfold bcdValue
  omega

/-- The byte and Carry that DAA leaves after an operation on bytes has answered `r`. -/
def daaAfter (r : Alu8Result) : RotResult := daaCompute r.val r.n r.h r.c

theorem daaAfter_add (a b : Byte) (va : bcdValid a = true) (vb : bcdValid b = true) :
    let d := daaAfter (addBytes a b false)
    (bcdValid d.val = true ∧ bcdValue d.val = (bcdValue a + bcdValue b) % 100) ∧
      (d.c = true ↔ 100 ≤ bcdValue a + bcdValue b) := by
  intro d
  obtain ⟨a1, a0⟩ := bcdValid_iff.mp va
  obtain ⟨b1, b0⟩ := bcdValid_iff.mp vb
  have sum : (addBytes a b false).val.toNat = (a.toNat + b.toNat) % 256 := rfl
  have half : (addBytes a b false).h = true ↔ a.toNat % 16 + b.toNat % 16 > 15 := decide_eq_true_iff
  have carry : (addBytes a b false).c = true ↔ a.toNat + b.toNat > 255 := decide_eq_true_iff
  have val : d.val.toNat = ((addBytes a b false).val.toNat +
      (daaAdjust (addBytes a b false).val false (addBytes a b false).h (addBytes a b false).c).toNat) % 256 := rfl
  have c : d.c = true ↔ (addBytes a b false).c = true ∨ (addBytes a b false).val.toNat > 0x99 := by
    rw [← decide_eq_true_iff (p := _ > _), ← Bool.or_eq_true]
    rfl
  simp only [daaAdjust_add_toNat, half, carry, sum] at val
  rw [carry, sum] at c
  refine ⟨bcd_of_digits (digits_add (by omega) (by omega) a1 a0 b1 b0 val), ?_⟩
  rw [c]
  unfold bcdValue
  omega

theorem daaAfter_sub (a b : Byte) (va : bcdValid a = true) (vb : bcdValid b = true) :
    let d := daaAfter (subBytes a b false)
    (bcdValid d.val = true ∧ bcdValue d.val = (bcdValue a + 100 - bcdValue b) % 100) ∧
      (d.c = true ↔ bcdValue a < bcdValue b) := by
  intro d
  obtain ⟨a1, a0⟩ := bcdValid_iff.mp va
  obtain ⟨b1, b0⟩ := bcdValid_iff.mp vb
  have diff : (subBytes a b false).val.toNat = (a.toNat + 0x200 - b.toNat) % 256 := rfl
  have half : (subBytes a b false).h = true ↔ a.toNat % 16 < b.toNat % 16 := decide_eq_true_iff
  have carry : (subBytes a b false).c = true ↔ a.toNat < b.toNat := decide_eq_true_iff
  have val : d.val.toNat = (256 -
      (daaAdjust (subBytes a b false).val true (subBytes a b false).h (subBytes a b false).c).toNat +
      (subBytes a b false).val.toNat) % 256 := rfl
  have c : d.c = (subBytes a b false).c := rfl
  simp only [daaAdjust_sub_toNat, half, carry, diff] at val
  refine ⟨bcd_of_digits (digits_sub (by omega) (by omega) a1 a0 b1 b0 val), ?_⟩
  rw [c, carry]
  unfold bcdValue
  omega

/-! ### Decimal arithmetic, in two steps -/

/-- DAA after an ALU row that writes A leaves in A and Carry what DAA leaves after the row's operation. -/
theorem exec_alu_daa {i : Instr} {o : AluOp} {x : Src8} {s t u : State} {r : Alu8Result} (form : i.form = .alu o x)
    (result : aluCompute o s.a (s.getSrc x) s.fC = r) (written : o ≠ .cp) (ran : exec i s = .next t)
    (daa : exec .daa t = .next u) : u.a = (daaAfter r).val ∧ u.fC = (daaAfter r).c := by
  obtain ⟨aluNext, -⟩ := retires_alu_written form result written
  have next := Host.Outcome.next.inj (ran.symm.trans aluNext)
  have a : t.a = r.val := by rw [next]
  have n : t.fN = r.n := by rw [next]; exact flagByte_bit6 _ _ _ _
  have h : t.fH = r.h := by rw [next]; exact flagByte_bit5 _ _ _ _
  have c : t.fC = r.c := by rw [next]; exact flagByte_bit4 _ _ _ _
  have daaResult : daaCompute t.a t.fN t.fH t.fC = daaAfter r := by rw [a, n, h, c]; rfl
  obtain ⟨daaNext, -⟩ := retires_daa daaResult
  rw [Host.Outcome.next.inj (daa.symm.trans daaNext)]
  exact ⟨rfl, flagByte_bit4 _ _ _ _⟩

/-- Settles O39: R201 and R203, then R367. -/
theorem decimalArithmetic : Obligations.DecimalArithmetic := by
  intro s t u va vb daa
  constructor
  · intro add
    obtain ⟨val, carry⟩ := exec_alu_daa (o := .add) (x := .loc (.reg .b)) rfl rfl nofun add daa
    rw [val, carry]
    exact and_assoc.mp (daaAfter_add s.a s.b va vb)
  · intro sub
    obtain ⟨val, carry⟩ := exec_alu_daa (o := .sub) (x := .loc (.reg .b)) rfl rfl nofun sub daa
    rw [val, carry]
    exact and_assoc.mp (daaAfter_sub s.a s.b va vb)

end Sys2Proof.Machine
end

section
/-! The address-space router and the stack across instructions (20_memory.md, 46_control.md, 47_stack.md R356). -/

namespace Sys2Proof.Machine

open Sys2Proof.Claims

/-! ### The rows of the routing table (R60) -/

/-- Settles O40: R62. -/
theorem switchableRomWindow : Obligations.SwitchableRomWindow := fun s addr v lo hi =>
  ⟨s.readByte_rom1 addr lo hi, s.writeByte_rom addr v hi⟩

/-- Settles O41: R61, R64. -/
theorem fixedRomAndExternalRam : Obligations.FixedRomAndExternalRam := by
  intro s addr v
  refine ⟨fun hi => ?fixed, fun lo hi => ?ram⟩
  case fixed => exact ⟨s.readByte_rom0 addr hi, s.writeByte_rom addr v (by omega)⟩
  case ram => exact ⟨s.readByte_xram addr lo hi, s.writeByte_xram addr v lo hi⟩

/-- Settles O45: R72. -/
theorem wordReads : Obligations.WordReads := fun s addr =>
  ⟨rfl, word16_toNat (s.readByte (addr + 1)) (s.readByte addr), word16_toNat (s.readByte 0x0000) (s.readByte 0xFFFF)⟩

/-- Settles O44: the write presented 0x2000 below is one of work RAM, whose mirror store is raw. -/
theorem protectedRange : Obligations.ProtectedRange := by
  intro s addr v lo hi inv
  refine ⟨s.writeByte_protected addr v lo hi, s.readByte_gm addr (by omega) (by omega), ?mirror⟩
  have below := toNat_echoMirror addr (by omega)
  have mirror := s.readByte_writeByte_workMirror (addr - 0x2000) v inv.memWf (by omega) (by omega)
  rwa [BitVec.sub_add_cancel] at mirror

/-- Settles O46: the next fetch is at the address stored to. -/
theorem storeSeenByNextFetch : Obligations.StoreSeenByNextFetch := by
  intro s t inv ⟨ram, unprotected⟩ ran
  have next : t = { s.writeByte (s.pc + 3) s.a with pc := s.pc + 3 } := exec_next ran
  have pc : t.pc = s.pc + 3 := by rw [next]
  have stored : t.readByte (s.pc + 3) = s.a := by
    rw [next]
    exact s.readByte_writeByte_same (s.pc + 3) s.a inv.memWf ram unprotected
  unfold State.fetch
  rw [pc, stored, BitVec.add_assoc, BitVec.add_assoc]
  exact ⟨rfl, rfl⟩

/-! ### What a push leaves on the stack (R353) -/

/-- The four shapes of the table of R70. -/
theorem writeTargets_cases (addr : Word) : writeTargets addr = [] ∨ writeTargets addr = [addr] ∨
    writeTargets addr = [addr, addr + 0x2000] ∨ writeTargets addr = [addr, addr - 0x2000] := by
  unfold writeTargets
  dsimp only
  (repeat' split) <;> simp only [true_or, or_true]

/-- The cell above an address is no target of a write presented there: a mirror is 0x2000 away. -/
theorem succ_not_mem_writeTargets (addr : Word) : addr + 1 ∉ writeTargets addr := by
  have here : addr + 1 ≠ addr := by bv_omega
  have up : addr + 1 ≠ addr + 0x2000 := by bv_omega
  have down : addr + 1 ≠ addr - 0x2000 := by bv_omega
  obtain eq | eq | eq | eq := writeTargets_cases addr <;> rw [eq]
  · exact List.not_mem_nil
  · exact List.not_mem_cons_of_ne_of_not_mem here List.not_mem_nil
  · exact List.not_mem_cons_of_ne_of_not_mem here (List.not_mem_cons_of_ne_of_not_mem up List.not_mem_nil)
  · exact List.not_mem_cons_of_ne_of_not_mem here (List.not_mem_cons_of_ne_of_not_mem down List.not_mem_nil)

/-- The word pushed is on top when both stack cells are writable. -/
theorem State.stackTop_push16 (s : State) (w : Word) (wf : s.memWf) (high : Writable (s.sp - 1))
    (low : Writable (s.sp - 2)) : (s.push16 w).stackTop = w := by
  have succ : s.sp - 2 + 1 = s.sp - 1 := by bv_omega
  have hi : ((s.writeByte (s.sp - 1) (hiByte w)).writeByte (s.sp - 2) (loByte w)).readByte (s.sp - 1) = hiByte w := by
    rw [State.readByte_writeByte_other _ _ _ _ (succ ▸ succ_not_mem_writeTargets (s.sp - 2))]
    exact s.readByte_writeByte_same _ _ wf high.1 high.2
  have lo : ((s.writeByte (s.sp - 1) (hiByte w)).writeByte (s.sp - 2) (loByte w)).readByte (s.sp - 2) = loByte w :=
    State.readByte_writeByte_same _ _ _ (s.memWf_writeByte _ _ wf) low.1 low.2
  calc (s.push16 w).stackTop = word16 ((s.push16 w).readByte (s.sp - 2 + 1)) ((s.push16 w).readByte (s.sp - 2)) := rfl
    _ = word16 (hiByte w) (loByte w) := by rw [succ]; exact congr (congrArg word16 hi) lo
    _ = w := word16_hiByte_loByte w

/-- A pair written with what it held is as it was: AF too, whose low bits are 0 (R25). -/
theorem State.getStk_setStk (s t : State) (p : RegStk) (low : s.f &&& 0x0F = 0) :
    (t.setStk p (s.getStk p)).getStk p = s.getStk p := by
  cases p
  case af =>
    show word16 (hiByte (word16 s.a s.f)) (loByte (word16 s.a s.f) &&& 0xF0) = word16 s.a s.f
    rw [hiByte_word16, loByte_word16, mask_of_low s.f low]
  all_goals exact word16_hiByte_loByte _

/-- The next state of a row, by its form. -/
theorem exec_next_form {i : Instr} {g : Form} {s t : State} (form : i.form = g) (row : g ≠ .prefixCB)
    (ran : exec i s = .next t) : t = formNext g s :=
  execForm_next row (by rw [← form, ← exec_eq_form, ran])

/-- Settles O34: R356. -/
theorem pushPopRestores : Obligations.PushPopRestores := by
  intro i j p s t u inv push pop ranPush ranPop
  have pushed := exec_next_form push nofun ranPush
  have popped := exec_next_form pop nofun ranPop
  have sp : t.sp = s.sp - 2 := by rw [pushed]; exact s.push16_sp (s.getStk p)
  constructor
  · calc u.sp = t.dropTop.sp := by rw [popped]; exact State.setStk_sp _ _ _
      _ = s.sp - 2 + 2 := congrArg (· + 2) sp
      _ = s.sp := BitVec.sub_add_cancel _ _
  · intro high low
    have top : t.stackTop = s.getStk p := by rw [pushed]; exact s.stackTop_push16 _ inv.memWf high low
    calc u.getStk p = (t.dropTop.setStk p t.stackTop).getStk p := by rw [popped]; cases p <;> rfl
      _ = (t.dropTop.setStk p (s.getStk p)).getStk p := by rw [top]
      _ = s.getStk p := s.getStk_setStk t.dropTop p inv.flagsLow

/-- Settles O35: R325 and R327 (46_control.md section 3). -/
theorem callThenReturns : Obligations.CallThenReturns := by
  intro a16 s t u inv high low ranCall ranRet
  have called : t = formNext (.call a16) s := exec_next ranCall
  have returned : u = formNext .ret t := exec_next ranRet
  constructor
  · calc u.pc = t.stackTop := by rw [returned]; rfl
      _ = (s.push16 (s.pc + 3)).stackTop := by rw [called]; rfl
      _ = s.pc + 3 := s.stackTop_push16 _ inv.memWf high low
  · calc u.sp = t.sp + 2 := by rw [returned]; rfl
      _ = s.sp - 2 + 2 := by rw [called]; rfl
      _ = s.sp := BitVec.sub_add_cancel _ _

end Sys2Proof.Machine
end
